-- ==== Sys2Proof/Word.lean ====
section
/-! DEFINITION. The words of the GK420 and its two fixed-size collections: four pins (or lamp steps), eight stations. -/

namespace Sys2Proof

/-- A byte of a cabinet bus frame or of the configuration memory. -/
abbrev Byte := BitVec 8

/-- A word of the game port (R162). -/
abbrev Word := BitVec 16

/-- A value of the local tick (00, "The local tick"). -/
abbrev Instant := BitVec 32

/-- A station number 0 … 7 (R185). -/
abbrev Station := Fin 8

/-- A pin number of P0 … P3, or a lamp step counted from 0 (R150, R152). -/
abbrev Pin := Fin 4

/-- One value for each of the four pins, or for each of the four lamp steps. -/
structure Four (α : Type) where
  e0 : α
  e1 : α
  e2 : α
  e3 : α
  deriving DecidableEq, Repr

/-- One value for each station. -/
structure Eight (α : Type) where
  e0 : α
  e1 : α
  e2 : α
  e3 : α
  e4 : α
  e5 : α
  e6 : α
  e7 : α
  deriving DecidableEq, Repr

variable {α : Type}

def Four.get (t : Four α) (i : Pin) : α :=
  match i.val with
  | 0 => t.e0
  | 1 => t.e1
  | 2 => t.e2
  | _ => t.e3

def Four.ofFn (f : Pin → α) : Four α := ⟨f 0, f 1, f 2, f 3⟩

def Four.replicate (x : α) : Four α := ⟨x, x, x, x⟩

def Four.set (t : Four α) (i : Pin) (x : α) : Four α :=
  Four.ofFn fun j => if j = i then x else t.get j

def Eight.get (t : Eight α) (i : Station) : α :=
  match i.val with
  | 0 => t.e0
  | 1 => t.e1
  | 2 => t.e2
  | 3 => t.e3
  | 4 => t.e4
  | 5 => t.e5
  | 6 => t.e6
  | _ => t.e7

def Eight.ofFn (f : Station → α) : Eight α := ⟨f 0, f 1, f 2, f 3, f 4, f 5, f 6, f 7⟩

def Eight.replicate (x : α) : Eight α := ⟨x, x, x, x, x, x, x, x⟩

def Eight.set (t : Eight α) (i : Station) (x : α) : Eight α :=
  Eight.ofFn fun j => if j = i then x else t.get j

/-- The eight station numbers in rising order. -/
def stations : List Station := [0, 1, 2, 3, 4, 5, 6, 7]

/-- The four pins, or the four lamp steps in program order. -/
def pins : List Pin := [0, 1, 2, 3]

end Sys2Proof
end

