-- ==== Sys2Proof/Syntax.lean ====
section
/-! DEFINITION. The commands: one constructor for each row of spec/opcode_table.json, in the table's order. -/

namespace Sys2Proof

/-- The commands the block takes. The commands of the game port carry no operands of their own: their arguments
stand in the argument buffer (R165). -/
inductive Instr where
  /-- R190. The straps the pins read (R185) and the bytes the configuration memory answers with: 32 when it answers,
  fewer when it stops answering at some point (R187). -/
  | hardwareReset (station : Station) (rate : Fin 4) (lowFirst : Bool) (memory : List Byte)
  | loadCompletion
  | candidatePulse
  | frameAbsentTimerExpiry
  | buildEntryRead
  | buildCompletion
  | lineBusy
  | idleGap
  | frameBroken
  /-- R24. The bytes the receiver collected between the two delimiters, header first. -/
  | frameCompletion (bytes : List Byte)
  | startOpportunity
  | readBackWhole
  | collision
  | stuckWatchExpiry
  | callCadenceTimerExpiry
  | reportSpacingTimerExpiry
  | resendTimerExpiry
  | presenceTimerExpiry (station : Station)
  | lostTimerExpiry (station : Station)
  | silenceTimerExpiry
  | lobbyTimerExpiry
  | lockTimerExpiry
  | greenTimerExpiry
  | graceCloseTimerExpiry
  | limitCloseTimerExpiry
  | resultsCeilingTimerExpiry
  | blinkTimerExpiry
  /-- R154. The lamp step, counted from 0: step 1 of the program is 0. -/
  | lampStepTimerExpiry (step : Pin)
  | lampGreenTimerExpiry
  | holdTimerExpiry
  | configure
  | readConfig
  | goOnline
  | goOffline
  | restart
  | enter
  | cancelEntry
  | postCar
  | lap
  | quit
  | openImage
  | readResults
  | ackResults
  | readPeer
  | readHealth
  | setOutput
  /-- R168. A code that names no command. -/
  | unknownCommand (code : Word)
  /-- R167. The code that is lost. -/
  | commandLost (code : Word)
  | commandCompletion
  | eventRelease
  /-- R183. The word written. -/
  | interruptEnableWrite (value : Word)
  /-- R162. Any of the 512 word addresses, and the word written there. -/
  | portWrite (address : BitVec 9) (value : Word)
  /-- R4. The level two agreeing samples confirmed: true is high. -/
  | frameInputLevelConfirmed (high : Bool)
  | startDelimiterRecognised
  deriving DecidableEq, Repr

end Sys2Proof
end

