-- ==== Sys2Proof/Config.lean ====
section
/-! DEFINITION. What the manual leaves open and the machine needs a value for: three free values, with no body. -/

namespace Sys2Proof.Config

/-- The backoff generator's sequence (R44): the value drawn at a place of the sequence seeded from a STATION value.
The manual does not lay the sequence down. Free value, notes/assumptions/3.md. -/
opaque backoffDraw : Station → Nat → BitVec 4

/-- Which of several things that may come next comes next when time alone decides (R3, R137, R166): the n-th choice.
Free value, notes/assumptions/2.md. -/
opaque schedulerChoice : Nat → Nat

/-- What the frame-pulse input reads at a local microsecond, true for high (R4): the n-th value drawn. The input is the
cabinet's, so the manual gives no value. Free value, notes/assumptions/37.md. -/
opaque frameInputLevel : Nat → Bool

end Sys2Proof.Config
end

