-- ==== Sys2Proof/Machine/State.lean ====
section
/-! DEFINITION. The state of the GK420, block by block, as plain data, and its value right after hardware reset.
Each block's structure names the rules that give its fields. -/

namespace Sys2Proof.Machine

/-- A timer: the instant it expires at while it runs, none while it is stopped (R3). -/
abbrev Timer := Option Instant

/-! ## Straps and settings -/

/-- The straps as sampled at hardware reset (R185). lowFirst is WORD_ORDER reading 1 (R163). -/
structure Straps where
  station : Station
  rate : Fin 4
  lowFirst : Bool
  deriving DecidableEq, Repr

/-- A pin's function (R150). -/
inductive PinFunction where
  | lamp
  | link
  | plain
  deriving DecidableEq, Repr

/-- A pin's value of the fail-safe map (R158). -/
inductive FailSafe where
  | off
  | on
  | blink
  deriving DecidableEq, Repr

/-- One step of the lamp program: ms before green, and the pattern with bit n for Pn (R152). -/
structure LampStep where
  offset : Nat
  pattern : BitVec 4
  deriving DecidableEq, Repr

/-- The settings in force (R189), in the units of the port (R178): ms, s, track units. -/
structure Settings where
  horizon : Nat
  lostTimeout : Nat
  th0 : Nat
  th1 : Nat
  /-- bit c is set when surface class c selects TH1 (R178) -/
  surfaceMap : BitVec 4
  headingThreshold : Nat
  blendShift : Nat
  reportSpacing : Nat
  lobbyWindow : Nat
  minField : Nat
  startLead : Nat
  raceLimit : Nat
  finishGrace : Nat
  eventMask : BitVec 24
  lampSteps : Four LampStep
  greenHold : Nat
  failSafe : Four FailSafe
  functions : Four PinFunction
  deriving DecidableEq, Repr

/-- The factory table (R189). -/
def Settings.factory : Settings where
  horizon := 100
  lostTimeout := 500
  th0 := 512
  th1 := 2048
  surfaceMap := 0b1100#4
  headingThreshold := 4096
  blendShift := 3
  reportSpacing := 16
  lobbyWindow := 20
  minField := 2
  startLead := 5000
  raceLimit := 600
  finishGrace := 20
  eventMask := 0
  lampSteps := ⟨⟨3000, 0b0001#4⟩, ⟨2000, 0b0011#4⟩, ⟨1000, 0b0111#4⟩, ⟨0, 0b1000#4⟩⟩
  greenHold := 2000
  failSafe := Four.replicate .blink
  functions := Four.replicate .lamp

/-- The Configuration Loader (R186 to R190): the bytes its one read got, the load-completion instant while LOADING
lasts, the settings in force, and CONFIG_DEFAULTED, which is also the source word (R178). -/
structure Loader where
  memory : List Byte
  loadTimer : Timer
  settings : Settings
  defaulted : Bool
  deriving DecidableEq, Repr

/-! ## Frame Capture -/

/-- The frame-input state (R11). -/
inductive FrameInput where
  | absent
  | present
  deriving DecidableEq, Repr

/-- One entry of the frame history (R9). -/
structure HistoryEntry where
  number : Word
  capture : Instant
  deriving DecidableEq, Repr

/-- Frame Capture (R4 to R16). level: the confirmed level, true for high. newest and previous: the last two samples of the
input, none before they are taken. history: oldest first. coming: what the input pin will read at the next tick, the
cabinet's and no state of the part's, drawn one tick ahead (notes/assumptions/37.md). -/
structure FrameCapture where
  sampling : Bool
  level : Option Bool
  newest : Option Bool
  previous : Option Bool
  input : FrameInput
  counter : Word
  history : List HistoryEntry
  period : Option Instant
  absentTimer : Timer
  lastCapture : Option Instant
  coming : Bool
  deriving DecidableEq, Repr

/-! ## Cars, frames on the bus -/

/-- The surface class (00, "Car state units"). -/
inductive Surface where
  | onRoad
  | offRoad
  | airborne
  | spun
  deriving DecidableEq, Repr

/-- The values of a car at its sample instant (R119). Positions and rates are two's complement. -/
structure CarValues where
  sample : Instant
  x : BitVec 24
  y : BitVec 24
  z : BitVec 24
  vx : Word
  vy : Word
  vz : Word
  h : Word
  w : Word
  g : BitVec 32
  q : Word
  surface : Surface
  deriving DecidableEq, Repr

/-- A race named by its signature and its laps (R78). -/
structure LobbyInfo where
  signature : Word
  laps : Byte
  deriving DecidableEq, Repr

/-- The payload of a CAR (R31). finishAge is present exactly when the FINISHED bit is set (R32). -/
structure CarReport where
  sampleAge : BitVec 24
  x : BitVec 24
  y : BitVec 24
  z : BitVec 24
  vx : Word
  vy : Word
  vz : Word
  h : Word
  w : Word
  g : BitVec 32
  q : Word
  surface : Surface
  dnf : Bool
  resend : Bool
  laps : Byte
  finishAge : Option (BitVec 32)
  deriving DecidableEq, Repr

/-- The payload of a START (R30). -/
structure StartProposal where
  lead : BitVec 24
  mask : Byte
  race : LobbyInfo
  deriving DecidableEq, Repr

/-- The four kinds of frame (R28). A CALL's lobby state is ENTERED or ATTRACT (R29). -/
inductive Payload where
  | call (entered : Bool) (race : LobbyInfo)
  | start (proposal : StartProposal)
  | car (report : CarReport)
  | withdraw (reason : Byte)
  deriving DecidableEq, Repr

/-- A cabinet bus frame, less its length and its CRC, which its content fixes (R22, R23). -/
structure BusFrame where
  sender : Station
  raceFlag : Bool
  sequence : Byte
  payload : Payload
  deriving DecidableEq, Repr

/-! ## Bus Receiver -/

/-- The line monitor (R19). It does not run before load completion. -/
inductive LineMonitor where
  | notStarted
  | busy
  | idle
  deriving DecidableEq, Repr

/-- The Bus Receiver. awaiting: the line has just left IDLE and its first activity may still turn out to be a start
delimiter (R20). arrival: the arrival stamp of the frame being assembled (R21). remains: the frame on the line began
with an own departure that a collision ended (R52). -/
structure BusReceiver where
  monitor : LineMonitor
  awaiting : Bool
  arrival : Option Instant
  remains : Bool
  goodFrames : Word
  crcErrors : Word
  deriving DecidableEq, Repr

/-! ## Transmitter -/

/-- An entry of the control queue (R35). -/
inductive ControlFrame where
  | start
  | withdraw (reason : Byte)
  deriving DecidableEq, Repr

/-- The source of a current frame (R41). -/
inductive Source where
  | start
  | withdraw (reason : Byte)
  | car
  | resend
  | call
  deriving DecidableEq, Repr

/-- The current frame: its source, its collision count 0 … 7 and its backoff in slots (R41, R44). -/
structure Current where
  source : Source
  collisions : Nat
  backoff : Nat
  deriving DecidableEq, Repr

/-- The frame in flight: its departure stamp, and its content as fixed at departure (R42). -/
structure InFlight where
  departure : Instant
  source : Source
  frame : BusFrame
  deriving DecidableEq, Repr

/-- The CAR slot's condition with its content (R36). -/
inductive SlotState where
  | empty
  | unsent (car : CarValues)
  | sent (car : CarValues)
  deriving DecidableEq, Repr

/-- The CAR slot. changed: its content has been replaced or emptied since the last CAR departure (R43). -/
structure CarSlot where
  state : SlotState
  finishMark : Bool
  changed : Bool
  deriving DecidableEq, Repr

/-- What the Transmitter is doing (R34). IDLE and DEFER both stand as ready: which of the two is shown follows from
the rest (notes/assumptions/10.md). disabled is the DISABLED latch (R49). -/
inductive TxPhase where
  | ready
  | sending
  | backoff
  | stuck
  | disabled
  deriving DecidableEq, Repr

/-- The Transmitter (R34 to R51). crossing: an own frame is still read back across a RESTART (R50). -/
structure Transmitter where
  phase : TxPhase
  queue : List ControlFrame
  slot : CarSlot
  callTimer : Timer
  spacingTimer : Timer
  resendTimer : Timer
  lastSender : Station
  opportunity : Option Instant
  current : Option Current
  inFlight : Option InFlight
  sequence : Byte
  stuckWatch : Timer
  stuckSince : Instant
  stuckCount : Word
  crossing : Bool
  framesSent : Word
  collisions : Word
  drops : Word
  backoffSeed : Station
  backoffPlace : Nat
  deriving DecidableEq, Repr

/-! ## Peer Table -/

/-- The entry state of a peer (R53). -/
inductive EntryState where
  | absent
  | present
  | entered
  | elsewhere
  | grid
  | racing
  | finished
  | lost
  | retired
  deriving DecidableEq, Repr

/-- A car record (R66, R119). heldFrame: the frame number of the POST_CAR that wrote the own record (R172). -/
structure CarRecord where
  car : CarValues
  laps : Byte
  finished : Bool
  heldFrame : Option Word
  deriving DecidableEq, Repr

/-- The display group of an entry (R133). -/
structure Display where
  cx : Int
  cy : Int
  cz : Int
  ch : Word
  x : BitVec 24
  y : BitVec 24
  z : BitVec 24
  h : Word
  g : BitVec 32
  snapped : Bool
  shown : Bool
  deriving DecidableEq, Repr

/-- A cleared display group (R133). -/
def Display.clear : Display := ⟨0, 0, 0, 0, 0, 0, 0, 0, 0, false, false⟩

/-- A Peer Table entry (R53 to R56). window: 16 positions, true for received, newest last; empty after the entry
became ABSENT (R58). The own entry's state field stays ABSENT and is not read: its state is the own race state
(R56, notes/assumptions/26.md). -/
structure Entry where
  state : EntryState
  lastHeard : Option Instant
  lastSequence : Option Byte
  window : List Bool
  raceFlag : Bool
  dnf : Bool
  resend : Bool
  presenceTimer : Timer
  lostTimer : Timer
  lobby : Option LobbyInfo
  car : Option CarRecord
  finish : Option (BitVec 32)
  display : Display
  deriving DecidableEq, Repr

/-- An entry after reset (R75). -/
def Entry.initial : Entry :=
  ⟨.absent, none, none, [], false, false, false, none, none, none, none, none, Display.clear⟩

/-- The Peer Table: the eight entries, the silence timer and its two marks (R73). -/
structure PeerTable where
  entries : Eight Entry
  silenceTimer : Timer
  heard : Bool
  silent : Bool
  deriving DecidableEq, Repr

/-! ## Race Sequencer -/

/-- The own race state (R77). -/
inductive OwnState where
  | offline
  | attract
  | entered
  | countdown
  | racing
  | finished
  | results
  deriving DecidableEq, Repr

/-- The own proposal (R83). -/
inductive Proposal where
  | none
  | pending
  deriving DecidableEq, Repr

/-- The race record (R86). The origin equals green, and lock is green less 1,000,000. -/
structure RaceRecord where
  proposer : Station
  green : Instant
  locked : Bool
  race : LobbyInfo
  mask : Byte
  deriving DecidableEq, Repr

/-- A category of the results (R111). -/
inductive Category where
  | finished
  | dnf
  | lost
  | retired
  deriving DecidableEq, Repr

/-- A results record (R113). Its rank is its place in the list, counted from 1. -/
structure ResultRecord where
  station : Station
  category : Category
  finish : Option (BitVec 32)
  progress : Option (BitVec 32)
  laps : Byte
  bestLap : Option (BitVec 32)
  deriving DecidableEq, Repr

/-- The Race Sequencer (R77 to R118). entry: the own signature and laps. The own finish is the finish of the own
Peer Table entry (R103). -/
structure Sequencer where
  own : OwnState
  entry : Option LobbyInfo
  lobbyTimer : Timer
  proposal : Proposal
  record : Option RaceRecord
  lockTimer : Timer
  greenTimer : Timer
  lapCount : Nat
  lapList : List (BitVec 32)
  earliest : Option (BitVec 32)
  graceTimer : Timer
  limitTimer : Timer
  ceilingTimer : Timer
  ceilingMark : Bool
  results : Option (List ResultRecord)
  deriving DecidableEq, Repr

/-! ## Image Builder -/

/-- A station record of an image (R139, R142). state is the code shown; rank is 0 outside the mask (R143). -/
structure StationRecord where
  state : Nat
  quality : Nat
  own : Bool
  stale : Bool
  snapped : Bool
  held : Bool
  noPosition : Bool
  finishValid : Bool
  x : BitVec 24
  y : BitVec 24
  z : BitVec 24
  h : Word
  g : BitVec 32
  laps : Byte
  finish : BitVec 32
  rank : Nat
  deriving DecidableEq, Repr

/-- A record before the build has read its entry (notes/assumptions/19.md). -/
def StationRecord.blank : StationRecord :=
  ⟨0, 0, false, false, false, false, false, false, 0, 0, 0, 0, 0, 0, 0, 0⟩

/-- A frame image (R137, R141, R149). -/
structure Image where
  sequence : Word
  capture : Instant
  period : BitVec 32
  own : OwnState
  raceTime : BitVec 32
  timeToGreen : Word
  mask : Byte
  present : Byte
  ranking : List Station
  records : Eight StationRecord
  deriving DecidableEq, Repr

/-- An image bank (R136). -/
inductive Bank where
  | free
  | filling (image : Image)
  | ready (image : Image)
  | opened (image : Image)
  deriving DecidableEq, Repr

/-- A build in progress: the entry it reads next, 8 when only completion is left, and the instant it began (R138). -/
structure Build where
  next : Nat
  started : Instant
  deriving DecidableEq, Repr

/-- The Image Builder (R136 to R149). -/
structure ImageBuilder where
  bank0 : Bank
  bank1 : Bank
  bank2 : Bank
  build : Option Build
  deriving DecidableEq, Repr

/-! ## Lamp Unit -/

/-- The lamp program's state (R152). A schedule holds the governing step as last decided: at its building and at each
step timer's expiry (R153, R154). -/
inductive LampProgram where
  | dark
  | scheduled (green : Instant) (steps : Four Instant) (governing : Option Pin)
  | hold (green : Instant) (pattern : BitVec 4) (holdEnd : Instant)
  deriving DecidableEq, Repr

/-- The Lamp Unit (R150 to R161). plain: the SET_OUTPUT levels. -/
structure LampUnit where
  program : LampProgram
  stepTimers : Four Timer
  greenTimer : Timer
  holdTimer : Timer
  plain : Four Bool
  blinkTimer : Timer
  blinkPhase : Fin 8
  deriving DecidableEq, Repr

/-! ## Command Unit and Event Queue -/

/-- The result codes (R168). -/
inductive Result where
  | ok
  | wrongState
  | badArgument
  | staleFrame
  | noNewer
  | early
  | tooSoon
  | disabled
  | clamped
  deriving DecidableEq, Repr

/-- The command-unit state (R166). BUSY holds what the take event formed, and the instant of the take. -/
inductive UnitState where
  | loading
  | idle
  | busy (result : Result) (reply : List Word) (taken : Instant)
  deriving DecidableEq, Repr

/-- The Command Unit (R164 to R168). -/
structure CommandUnit where
  unit : UnitState
  arguments : List Word
  copied : List Word
  reply : List Word
  lastResult : Result
  replyLength : Nat
  lost : Bool
  deriving DecidableEq, Repr

/-- The event kinds (R180). -/
inductive EventKind where
  | frameLost
  | frameReturned
  | txDropped
  | busStuck
  | busClear
  | duplicateStation
  | peerJoined
  | peerGone
  | peerEntered
  | peerLeftLobby
  | peerLost
  | peerReturned
  | peerRetired
  | peerFinished
  | linkSilent
  | linkHeard
  | lobbyExtended
  | startAdopted
  | startReplaced
  | startMissed
  | startLate
  | green
  | ownLap
  | ownFinished
  | resultsFinal
  | raceExpired
  | configDefaulted
  | overflow
  deriving DecidableEq, Repr

/-- An event record (R179). -/
structure EventRecord where
  kind : EventKind
  station : Station
  detail : Word
  stamp : Instant
  deriving DecidableEq, Repr

/-- The Event Queue: the records held, oldest first, and the interrupt enable (R179, R183). -/
structure EventQueue where
  records : List EventRecord
  enable : Bool
  deriving DecidableEq, Repr

/-! ## The machine -/

/-- The whole part (INVENTORY.md, State). pending is the queue of commands that wait, first in, first out; free counts
the uses of Config.schedulerChoice and Config.frameInputLevel (notes/assumptions/2.md, 37.md). -/
structure State where
  tick : Instant
  straps : Straps
  loader : Loader
  frame : FrameCapture
  rx : BusReceiver
  tx : Transmitter
  peers : PeerTable
  race : Sequencer
  image : ImageBuilder
  lamp : LampUnit
  cmd : CommandUnit
  events : EventQueue
  free : Nat
  pending : List Instr
  deriving DecidableEq, Repr

/-- The reasons the part stops with a fault: none. The manual describes no fault that ends the part; what goes wrong
on the link is state (STUCK, DISABLED, result codes, counters). -/
inductive Fault where
  deriving DecidableEq, Repr

/-- The reasons a command has no meaning. -/
inductive Refusal where
  /-- Raised by exec's arm for a command that has no meaning yet; safe. No arm raises it now. -/
  | notModelled (mnemonic : String)
  deriving DecidableEq, Repr

/-! ## Values after reset -/

/-- Frame Capture after hardware reset (R16). -/
def FrameCapture.initial : FrameCapture := ⟨false, none, none, none, .absent, 0, [], none, none, none, true⟩

/-- The Bus Receiver after hardware reset (R19, R75). -/
def BusReceiver.initial : BusReceiver := ⟨.notStarted, false, none, false, 0, 0⟩

/-- An empty CAR slot (R36). -/
def CarSlot.initial : CarSlot := ⟨.empty, false, false⟩

/-- The Transmitter after hardware reset, for a STATION value (R51). -/
def Transmitter.initial (station : Station) : Transmitter where
  phase := .ready
  queue := []
  slot := CarSlot.initial
  callTimer := none
  spacingTimer := none
  resendTimer := none
  lastSender := station
  opportunity := none
  current := none
  inFlight := none
  sequence := 0
  stuckWatch := none
  stuckSince := 0
  stuckCount := 0
  crossing := false
  framesSent := 0
  collisions := 0
  drops := 0
  backoffSeed := station
  backoffPlace := 0

/-- The Peer Table after hardware reset, RESTART and GO_OFFLINE (R74, R75). -/
def PeerTable.initial : PeerTable := ⟨Eight.replicate Entry.initial, none, false, false⟩

/-- The Race Sequencer after hardware reset and RESTART (R97, R118). -/
def Sequencer.initial : Sequencer where
  own := .offline
  entry := none
  lobbyTimer := none
  proposal := .none
  record := none
  lockTimer := none
  greenTimer := none
  lapCount := 0
  lapList := []
  earliest := none
  graceTimer := none
  limitTimer := none
  ceilingTimer := none
  ceilingMark := false
  results := none

/-- The Image Builder after hardware reset and RESTART (R148). -/
def ImageBuilder.initial : ImageBuilder := ⟨.free, .free, .free, none⟩

/-- The Lamp Unit after hardware reset (R161). -/
def LampUnit.initial : LampUnit :=
  ⟨.dark, Four.replicate none, none, none, Four.replicate false, none, 0⟩

/-- Sixteen words of 0. -/
def zeroBuffer : List Word := List.replicate 16 0

/-- The Command Unit after hardware reset (R184). -/
def CommandUnit.initial : CommandUnit := ⟨.loading, zeroBuffer, zeroBuffer, zeroBuffer, .ok, 0, false⟩

/-- The part right after the release of hardware reset, with the straps sampled and the memory's answer (R190). -/
def State.afterReset (straps : Straps) (memory : List Byte) : State where
  tick := 0
  straps := straps
  loader := ⟨memory, some 5000, Settings.factory, false⟩
  frame := FrameCapture.initial
  rx := BusReceiver.initial
  tx := Transmitter.initial straps.station
  peers := PeerTable.initial
  race := Sequencer.initial
  image := ImageBuilder.initial
  lamp := LampUnit.initial
  cmd := CommandUnit.initial
  events := ⟨[], false⟩
  free := 0
  pending := []

/-- The part right after hardware reset on a board with STATION 0, RATE 0, WORD_ORDER 0 and no configuration memory
(DESIGN CHOICE, notes/assumptions/5.md: the straps and the memory are the board's). -/
def State.reset : State := State.afterReset ⟨0, 0, false⟩ []

end Sys2Proof.Machine
end

