-- ==== Sys2Proof/Machine/Ops.lean ====
section
/-! DEFINITION. The operations every block uses: time and timers, the settings in microseconds, posting an event,
the Peer Table's entries, the own race state, the frame history, and the update of one block of the state. -/

namespace Sys2Proof.Machine

/-! ## Updating one block -/

def State.setTick (s : State) (x : Instant) : State := { s with tick := x }
def State.setStraps (s : State) (x : Straps) : State := { s with straps := x }
def State.setLoader (s : State) (x : Loader) : State := { s with loader := x }
def State.setFrame (s : State) (x : FrameCapture) : State := { s with frame := x }
def State.setRx (s : State) (x : BusReceiver) : State := { s with rx := x }
def State.setTx (s : State) (x : Transmitter) : State := { s with tx := x }
def State.setPeers (s : State) (x : PeerTable) : State := { s with peers := x }
def State.setRace (s : State) (x : Sequencer) : State := { s with race := x }
def State.setImage (s : State) (x : ImageBuilder) : State := { s with image := x }
def State.setLamp (s : State) (x : LampUnit) : State := { s with lamp := x }
def State.setCmd (s : State) (x : CommandUnit) : State := { s with cmd := x }
def State.setEvents (s : State) (x : EventQueue) : State := { s with events := x }
def State.setFree (s : State) (x : Nat) : State := { s with free := x }
def State.setPending (s : State) (x : List Instr) : State := { s with pending := x }

/-! ## Time (R2, R3) -/

/-- The interval from instant a to instant b, read as a signed 32-bit number (R2). -/
def interval (a b : Instant) : Int := (b - a).toInt

/-- An instant is reached when the interval from the current tick to it is zero or negative (R2). -/
def reached (now t : Instant) : Bool := decide (interval now t ≤ 0)

/-- A running timer whose instant is reached expires; a stopped timer has no expiry (R3). -/
def Timer.due (now : Instant) (t : Timer) : Bool :=
  match t with
  | none => false
  | some i => reached now i

/-- The instant of a running timer; 0 for a stopped one, which no rule reads. -/
def Timer.instant (t : Timer) : Instant := t.getD 0

/-- A number of microseconds as an offset of instants. -/
def micros (n : Nat) : Instant := BitVec.ofNat 32 n

/-- A number of milliseconds as an offset of instants; 1 ms is 1,000 µs (00, "Durations"). -/
def millis (n : Nat) : Instant := micros (n * 1000)

/-- A number of seconds as an offset of instants. -/
def seconds (n : Nat) : Instant := micros (n * 1000000)

/-- A timer started for a duration: its instant is the current tick plus the duration (R3). -/
def State.start (s : State) (d : Instant) : Timer := some (s.tick + d)

/-! ## Durations the manual fixes -/

/-- R11: 100,000 µs. -/
def frameAbsentTime : Instant := micros 100000
/-- R6: 4,000 µs. -/
def minFrameTime : Int := 4000
/-- R37: 250 ms. -/
def callCadence : Instant := millis 250
/-- R38, R45: 250 ms. -/
def resendInterval : Instant := millis 250
/-- R48: 20 ms. -/
def stuckTime : Instant := millis 20
/-- R59: 1,000 ms. -/
def presenceTime : Instant := millis 1000
/-- R73: 1,000 ms. -/
def silenceTime : Instant := millis 1000
/-- R86: the lock instant is 1,000,000 µs before green; R85: a shorter lead is refused. -/
def lockMargin : Nat := 1000000
/-- R107, R108: the settle margin of 250 ms. -/
def settleMargin : Instant := millis 250
/-- R110: 2,000,000,000 µs. -/
def ceilingTime : Instant := micros 2000000000
/-- R151: 62,500 µs. -/
def blinkHalf : Instant := micros 62500
/-- R190: 5,000 µs. -/
def loadingTime : Instant := micros 5000

/-! ## Bus durations (R17) -/

/-- The bit period in ns: 4, 2, 1 and 0.5 µs. -/
def Straps.bitPeriod (p : Straps) : Nat :=
  match p.rate.val with
  | 0 => 4000
  | 1 => 2000
  | 2 => 1000
  | _ => 500

/-- A number of bit periods in µs: a whole number for each of the three below. -/
def Straps.bitPeriods (p : Straps) (n : Nat) : Nat := n * p.bitPeriod / 1000

/-- The receive delay Dr: two bit periods. -/
def Straps.receiveDelay (p : Straps) : Instant := micros (p.bitPeriods 2)

/-- The idle gap in µs: 12 bit periods. It passes on the line, and IDLE_GAP is its end (R19;
notes/assumptions/20.md). -/
def Straps.idleGap (p : Straps) : Nat := p.bitPeriods 12

/-- The slot in µs: 16 bit periods. -/
def Straps.slot (p : Straps) : Nat := p.bitPeriods 16

/-! ## Short names -/

/-- The own station number (R185). -/
def State.own (s : State) : Station := s.straps.station

/-- The settings in force (R189). -/
def State.settings (s : State) : Settings := s.loader.settings

/-! ## Counters -/

/-- A saturating 16-bit count (R51, R52). -/
def satInc (x : Word) : Word := if x = 0xFFFF#16 then x else x + 1

/-! ## The Event Queue (R179 to R181) -/

/-- The code of an event kind (R180). -/
def EventKind.code : EventKind → Nat
  | .frameLost => 1
  | .frameReturned => 2
  | .txDropped => 3
  | .busStuck => 4
  | .busClear => 5
  | .duplicateStation => 6
  | .peerJoined => 7
  | .peerGone => 8
  | .peerEntered => 9
  | .peerLeftLobby => 10
  | .peerLost => 11
  | .peerReturned => 12
  | .peerRetired => 13
  | .peerFinished => 14
  | .linkSilent => 15
  | .linkHeard => 16
  | .lobbyExtended => 17
  | .startAdopted => 18
  | .startReplaced => 19
  | .startMissed => 20
  | .startLate => 21
  | .green => 22
  | .ownLap => 23
  | .ownFinished => 24
  | .resultsFinal => 25
  | .raceExpired => 26
  | .configDefaulted => 27
  | .overflow => 28

/-- The mask position of an event kind; OVERFLOW has none (R180). -/
def EventKind.position : EventKind → Option Nat
  | .frameLost => some 0
  | .frameReturned => some 0
  | .txDropped => some 1
  | .busStuck => some 2
  | .busClear => some 2
  | .duplicateStation => some 3
  | .peerJoined => some 4
  | .peerGone => some 5
  | .peerEntered => some 6
  | .peerLeftLobby => some 7
  | .peerLost => some 8
  | .peerReturned => some 9
  | .peerRetired => some 10
  | .peerFinished => some 11
  | .linkSilent => some 12
  | .linkHeard => some 12
  | .lobbyExtended => some 13
  | .startAdopted => some 14
  | .startReplaced => some 15
  | .startMissed => some 16
  | .startLate => some 17
  | .green => some 18
  | .ownLap => some 19
  | .ownFinished => some 20
  | .resultsFinal => some 21
  | .raceExpired => some 22
  | .configDefaulted => some 23
  | .overflow => none

/-- The kind's position is masked (R181). -/
def EventKind.masked (k : EventKind) (mask : BitVec 24) : Bool :=
  match k.position with
  | none => false
  | some p => mask.getLsbD p

/-- A record counts one more dropped event when it is the OVERFLOW record (R181). -/
def EventRecord.countDropped (r : EventRecord) : EventRecord :=
  if r.kind = .overflow then { r with detail := satInc r.detail } else r

/-- An OVERFLOW record is held (R181). -/
def overflowHeld (q : List EventRecord) : Bool := q.any fun r => decide (r.kind = .overflow)

/-- The queue after a post (R181): masked, counted into the OVERFLOW record held, joined, or turned into a new
OVERFLOW record. -/
def postRecord (mask : BitVec 24) (own : Station) (r : EventRecord) (q : List EventRecord) : List EventRecord :=
  if r.kind.masked mask then q
  else if overflowHeld q then q.map EventRecord.countDropped
  else if q.length < 31 then q ++ [r]
  else q ++ [⟨.overflow, own, 1, r.stamp⟩]

/-- A block posts an event (R181). -/
def State.post (s : State) (kind : EventKind) (station : Station) (detail : Word) (stamp : Instant) : State :=
  s.setEvents { s.events with
    records := postRecord s.settings.eventMask s.own ⟨kind, station, detail, stamp⟩ s.events.records }

/-- The interrupt line is asserted while the queue holds a record and the enable is set (R183). -/
def State.interruptAsserted (s : State) : Bool := !s.events.records.isEmpty && s.events.enable

/-! ## Masks of stations -/

/-- Station p is in the mask (R28). -/
def inMask (mask : Byte) (p : Station) : Bool := mask.getLsbD p.val

/-- The mask of the stations a test picks. -/
def maskOf (f : Station → Bool) : Byte :=
  stations.foldl (fun m p => if f p then m ||| BitVec.ofNat 8 (2 ^ p.val) else m) 0

/-! ## Peer Table entries -/

/-- A station's entry. -/
def State.entry (s : State) (p : Station) : Entry := s.peers.entries.get p

/-- One entry replaced. -/
def State.setEntry (s : State) (p : Station) (e : Entry) : State :=
  s.setPeers { s.peers with entries := s.peers.entries.set p e }

/-- Every entry replaced by a function of its station and itself. -/
def State.mapEntries (s : State) (f : Station → Entry → Entry) : State :=
  s.setPeers { s.peers with entries := Eight.ofFn fun p => f p (s.peers.entries.get p) }

/-- The code of an entry state (R53). -/
def EntryState.code : EntryState → Nat
  | .absent => 0
  | .present => 1
  | .entered => 2
  | .elsewhere => 3
  | .grid => 4
  | .racing => 5
  | .finished => 6
  | .lost => 7
  | .retired => 8

/-- A race state of an entry (R63). -/
def EntryState.isRace : EntryState → Bool
  | .grid | .racing | .finished | .lost | .retired => true
  | .absent | .present | .entered | .elsewhere => false

/-- Quality: the number of received positions of the window (R58). -/
def Entry.quality (e : Entry) : Nat := e.window.count true

/-- The peer entries that are not ABSENT (R73, R76). -/
def State.presentPeers (s : State) : List Station :=
  stations.filter fun p => decide (p ≠ s.own) && decide ((s.entry p).state ≠ .absent)

/-- The own finish: the finish of the own entry (R103). -/
def State.ownFinish (s : State) : Option (BitVec 32) := (s.entry s.own).finish

/-! ## Own race state -/

/-- The code of the own race state (R141). -/
def OwnState.code : OwnState → Nat
  | .offline => 0
  | .attract => 1
  | .entered => 2
  | .countdown => 3
  | .racing => 4
  | .finished => 5
  | .results => 6

/-- COUNTDOWN, RACING, FINISHED and RESULTS are the race states (R77). -/
def OwnState.isRace : OwnState → Bool
  | .countdown | .racing | .finished | .results => true
  | .offline | .attract | .entered => false

/-- ATTRACT and ENTERED are the lobby states (R77). -/
def OwnState.isLobby : OwnState → Bool
  | .attract | .entered => true
  | .offline | .countdown | .racing | .finished | .results => false

/-- A change of own race state. The Transmitter's CALL cadence timer stops at it: it runs in no state but ATTRACT and
ENTERED, and a CALL is due at once on every way into one of them (R37). -/
def State.setOwn (s : State) (o : OwnState) : State :=
  (s.setRace { s.race with own := o }).setTx { s.tx with callTimer := none }

/-! ## Frame history (R14) -/

/-- The capture tick of a frame in the history. -/
def State.lookupFrame (s : State) (n : Word) : Option Instant :=
  (s.frame.history.find? fun e => decide (e.number = n)).map HistoryEntry.capture

/-- Frame m is earlier than frame n (R8). -/
def frameEarlier (m n : Word) : Bool := decide (0 < (n - m).toInt)

end Sys2Proof.Machine
end

