-- ==== Sys2Proof/Machine/Operands.lean ====
section
/-! DEFINITION. The operand forms: pairs of port words, argument words, the settings as words and as bytes of the
configuration memory, and the CRC-8 over them. -/

namespace Sys2Proof.Machine

/-! ## Port words (R163) -/

/-- The two words of a 32-bit quantity, lower address first. -/
def wordPair (lowFirst : Bool) (x : BitVec 32) : List Word :=
  if lowFirst then [x.extractLsb' 0 16, x.extractLsb' 16 16] else [x.extractLsb' 16 16, x.extractLsb' 0 16]

/-- The 32-bit quantity of two consecutive words, the one at the lower address first. -/
def joinPair (lowFirst : Bool) (first second : Word) : BitVec 32 :=
  if lowFirst then second ++ first else first ++ second

/-- A number as a port word. -/
def word (n : Nat) : Word := BitVec.ofNat 16 n

/-- The word at a place of a buffer. -/
def wordAt (b : List Word) (i : Nat) : Word := b.getD i 0

/-- The 32-bit quantity in words i and i + 1 of a buffer. -/
def pairAt (lowFirst : Bool) (b : List Word) (i : Nat) : BitVec 32 :=
  joinPair lowFirst (wordAt b i) (wordAt b (i + 1))

/-- The strap word (R162). -/
def Straps.word (p : Straps) : Word :=
  BitVec.ofNat 16 (p.station.val + p.rate.val * 8 + (if p.lowFirst then 32 else 0))

/-! ## Values of a car -/

/-- A rate of -32,768 is taken as -32,767 (R31, R119). -/
def takeRate (r : Word) : Word := if r = 0x8000#16 then 0x8001#16 else r

/-- A number brought into the signed 24-bit range (R123, R172). -/
def saturate24 (v : Int) : BitVec 24 :=
  BitVec.ofInt 24 (if v < -8388608 then -8388608 else if 8388607 < v then 8388607 else v)

/-- A number lies outside the signed 24-bit range (R172). -/
def outside24 (v : Int) : Bool := decide (v < -8388608) || decide (8388607 < v)

/-- The surface class of a code 0 … 3, none for another (R170). -/
def surfaceOf (n : Nat) : Option Surface :=
  match n with
  | 0 => some .onRoad
  | 1 => some .offRoad
  | 2 => some .airborne
  | 3 => some .spun
  | _ => none

/-- The code of a surface class (00, "Car state units"; R28). -/
def Surface.code : Surface → Nat
  | .onRoad => 0
  | .offRoad => 1
  | .airborne => 2
  | .spun => 3

/-! ## Settings (R178, R186, R189, R191) -/

/-- A value replaced by the nearer limit when it lies outside its range (R189, R191). -/
def clampTo (lo hi v : Nat) : Nat := if v < lo then lo else if hi < v then hi else v

/-- A two-bit pin field: 3 is taken as 2 (R189, R191). -/
def pinField (w : Word) (p : Pin) : Nat :=
  let f := w.toNat / 4 ^ p.val % 4
  if f = 3 then 2 else f

/-- A two-bit pin field of the word holds 3. -/
def pinFieldLimited (w : Word) : Bool := pins.any fun p => decide (w.toNat / 4 ^ p.val % 4 = 3)

def failSafeOf (n : Nat) : FailSafe :=
  match n with
  | 0 => .off
  | 1 => .on
  | _ => .blink

def FailSafe.code : FailSafe → Nat
  | .off => 0
  | .on => 1
  | .blink => 2

def functionOf (n : Nat) : PinFunction :=
  match n with
  | 0 => .lamp
  | 1 => .link
  | _ => .plain

def PinFunction.code : PinFunction → Nat
  | .lamp => 0
  | .link => 1
  | .plain => 2

/-- Four two-bit fields as one word, Pn at bits 2n+1 … 2n (R178). -/
def packPins (f : Pin → Nat) : Word := BitVec.ofNat 16 (f 0 + f 1 * 4 + f 2 * 16 + f 3 * 64)

/-- The range of the setting in a word of group 0 (R189); none for the words whose value is not limited: the
threshold map, the strap word and the event mask. -/
def groupZeroRange (i : Nat) : Option (Nat × Nat) :=
  match i with
  | 0 => some (16, 250)
  | 1 => some (100, 2000)
  | 2 => some (1, 65535)
  | 3 => some (1, 65535)
  | 5 => some (1, 32768)
  | 6 => some (1, 6)
  | 7 => some (4, 50)
  | 8 => some (5, 60)
  | 9 => some (1, 8)
  | 10 => some (3000, 10000)
  | 11 => some (60, 1800)
  | 12 => some (5, 60)
  | _ => none

/-- The range of the setting in a word of group 1 (R189); the other words hold patterns and pin fields. -/
def groupOneRange (i : Nat) : Option (Nat × Nat) :=
  match i with
  | 0 => some (0, 10000)
  | 2 => some (0, 10000)
  | 4 => some (0, 10000)
  | 6 => some (0, 10000)
  | 8 => some (0, 5000)
  | _ => none

/-- A value of a word brought into the word's range. -/
def limitWord (range : Option (Nat × Nat)) (v : Nat) : Nat :=
  match range with
  | none => v
  | some (lo, hi) => clampTo lo hi v

/-- The settings with every setting of group 0 taken from a buffer in the layout of R178, each brought into range. -/
def Settings.takeGroupZero (t : Settings) (lowFirst : Bool) (b : List Word) : Settings :=
  let v := fun i => limitWord (groupZeroRange i) (wordAt b i).toNat
  { t with
    horizon := v 0
    lostTimeout := v 1
    th0 := v 2
    th1 := v 3
    surfaceMap := (wordAt b 4).extractLsb' 0 4
    headingThreshold := v 5
    blendShift := v 6
    reportSpacing := v 7
    lobbyWindow := v 8
    minField := v 9
    startLead := v 10
    raceLimit := v 11
    finishGrace := v 12
    eventMask := (pairAt lowFirst b 14).extractLsb' 0 24 }

/-- The settings with every setting of group 1 taken from a buffer in the layout of R178, each brought into range. -/
def Settings.takeGroupOne (t : Settings) (b : List Word) : Settings :=
  let v := fun i => limitWord (groupOneRange i) (wordAt b i).toNat
  { t with
    lampSteps := Four.ofFn fun p => ⟨v (2 * p.val), (wordAt b (2 * p.val + 1)).extractLsb' 0 4⟩
    greenHold := v 8
    failSafe := Four.ofFn fun p => failSafeOf (pinField (wordAt b 9) p)
    functions := Four.ofFn fun p => functionOf (pinField (wordAt b 10) p) }

/-- Word i of group 0 is limited when it is taken (R191). -/
def groupZeroLimited (b : List Word) (i : Nat) : Bool :=
  decide (limitWord (groupZeroRange i) (wordAt b i).toNat ≠ (wordAt b i).toNat)

/-- Word i of group 1 is limited when it is taken (R191). A pin field of 3 taken as 2 counts
(notes/assumptions/18.md). -/
def groupOneLimited (b : List Word) (i : Nat) : Bool :=
  decide (limitWord (groupOneRange i) (wordAt b i).toNat ≠ (wordAt b i).toNat) ||
    ((decide (i = 9) || decide (i = 10)) && pinFieldLimited (wordAt b i))

/-- The word whose bit n is set when word n of the group was limited (R191). -/
def limitedWord (limited : Nat → Bool) : Word :=
  (List.range 13).foldl (fun w i => if limited i then w ||| BitVec.ofNat 16 (2 ^ i) else w) 0

/-- Group 0 as READ_CONFIG returns it (R178). -/
def Settings.groupZero (t : Settings) (p : Straps) : List Word :=
  [word t.horizon, word t.lostTimeout, word t.th0, word t.th1, t.surfaceMap.setWidth 16, word t.headingThreshold,
    word t.blendShift, word t.reportSpacing, word t.lobbyWindow, word t.minField, word t.startLead,
    word t.raceLimit, word t.finishGrace, p.word] ++ wordPair p.lowFirst (t.eventMask.setWidth 32)

/-- Group 1 as READ_CONFIG returns it (R178). -/
def Settings.groupOne (t : Settings) (defaulted : Bool) : List Word :=
  (pins.flatMap fun p => [word (t.lampSteps.get p).offset, (t.lampSteps.get p).pattern.setWidth 16]) ++
    [word t.greenHold, packPins fun p => (t.failSafe.get p).code, packPins fun p => (t.functions.get p).code,
      if defaulted then 1 else 0]

/-! ## The configuration memory (R186, R187, R189) -/

/-- One bit of the CRC-8: polynomial x^8 + x^2 + x + 1, most significant bit first (R187). -/
def crc8Bit (c : Byte) : Byte := if c.msb then (c <<< 1) ^^^ 0x07#8 else c <<< 1

/-- One byte of the CRC-8. -/
def crc8Byte (c b : Byte) : Byte :=
  crc8Bit (crc8Bit (crc8Bit (crc8Bit (crc8Bit (crc8Bit (crc8Bit (crc8Bit (c ^^^ b))))))))

/-- The CRC-8 of a run of bytes, preset to 0 (R187). -/
def crc8 (bytes : List Byte) : Byte := bytes.foldl crc8Byte 0

/-- Byte i of the memory. -/
def memByte (m : List Byte) (i : Nat) : Nat := (m.getD i 0).toNat

/-- The two-byte field at byte i, most significant byte first (R186). -/
def memWord (m : List Byte) (i : Nat) : Nat := memByte m i * 256 + memByte m (i + 1)

/-- The settings the memory holds, each brought into range (R186, R189). -/
def settingsOfMemory (m : List Byte) : Settings where
  horizon := clampTo 16 250 (memByte m 0)
  lostTimeout := clampTo 100 2000 (memWord m 1)
  th0 := clampTo 1 65535 (memWord m 3)
  th1 := clampTo 1 65535 (memWord m 5)
  surfaceMap := BitVec.ofNat 4 (memByte m 7)
  headingThreshold := clampTo 1 32768 (memWord m 8)
  blendShift := clampTo 1 6 (memByte m 7 / 16 % 8)
  reportSpacing := clampTo 4 50 (memByte m 10)
  lobbyWindow := clampTo 5 60 (memByte m 11)
  minField := clampTo 1 8 (memByte m 12)
  startLead := clampTo 3000 10000 (memWord m 13)
  raceLimit := clampTo 60 1800 (memWord m 15)
  finishGrace := clampTo 5 60 (memByte m 17)
  eventMask := BitVec.ofNat 24 (memByte m 18 * 65536 + memByte m 19 * 256 + memByte m 20)
  lampSteps := Four.ofFn fun p =>
    ⟨clampTo 0 10000 (memByte m (21 + p.val) * 50),
      BitVec.ofNat 4 (memByte m (25 + p.val / 2) / 16 ^ (p.val % 2))⟩
  greenHold := clampTo 0 5000 (memWord m 27)
  failSafe := Four.ofFn fun p => failSafeOf (pinField (word (memByte m 29)) p)
  functions := Four.ofFn fun p => functionOf (pinField (word (memByte m 30)) p)

/-- What the loader's read came to (R187): none when the memory did not answer all 32 bytes, else whether the CRC-8
over bytes 0 … 30 equals byte 31. -/
def memoryCheck (m : List Byte) : Option Bool :=
  if m.length < 32 then none else some (decide ((crc8 (m.take 31)).toNat = memByte m 31))

end Sys2Proof.Machine
end

