-- ==== Sys2Proof/Machine/Lamps.lean ====
section
/-! DEFINITION. The Lamp Unit: the schedule, the governing step, green and the hold (R152 to R157). -/

namespace Sys2Proof.Machine

/-- The governing step: of the reached steps the one with the latest instant, the later in the program of two that
share it (R152). -/
def governingStep (steps : Four Instant) (hit : Pin → Bool) : Option Pin :=
  pins.foldl (fun best i =>
    if hit i then
      match best with
      | none => some i
      | some b => if 0 ≤ interval (steps.get b) (steps.get i) then some i else some b
    else best) none

/-- A step's pattern, or all off for no step (R152). -/
def stepPattern (t : Settings) (i : Option Pin) : BitVec 4 :=
  match i with
  | none => 0
  | some p => (t.lampSteps.get p).pattern

/-- The program pattern (R152). -/
def LampUnit.pattern (l : LampUnit) (t : Settings) : BitVec 4 :=
  match l.program with
  | .dark => 0
  | .scheduled _ _ governing => stepPattern t governing
  | .hold _ pattern _ => pattern

/-- The schedule dropped (R157): DARK, every lamp timer stopped. -/
def LampUnit.drop (l : LampUnit) : LampUnit :=
  { l with program := .dark, stepTimers := Four.replicate none, greenTimer := none, holdTimer := none }

/-- A step takes part in the countdown at a tick: its instant is reached (R2, R152). With a green hold of 0 a step at
green itself has no part in it: the pins go from the last countdown pattern straight to off (R155;
notes/assumptions/40.md). -/
def stepTakesPart (t : Settings) (green : Instant) (steps : Four Instant) (now : Instant) (i : Pin) : Bool :=
  reached now (steps.get i) && !(decide (t.greenHold = 0) && decide (steps.get i = green))

/-- The governing step at a tick (R2, R152). -/
def governingAt (t : Settings) (green : Instant) (steps : Four Instant) (now : Instant) : Option Pin :=
  governingStep steps (stepTakesPart t green steps now)

/-- The schedule built, or rebuilt, from a green instant (R153, R156). A step whose instant is already reached counts
as reached from this event, and its timer has expired. -/
def LampUnit.schedule (l : LampUnit) (t : Settings) (now green : Instant) : LampUnit :=
  let at' := fun (p : Pin) => green - millis (t.lampSteps.get p).offset
  { l with
    program := .scheduled green (Four.ofFn at') (governingAt t green (Four.ofFn at') now)
    stepTimers := Four.ofFn fun p => if reached now (at' p) then none else some (at' p)
    greenTimer := some green
    holdTimer := none }

/-- A step timer's expiry (R154): the governing step is decided again, by the instants reached at the tick, so that of
steps that share an instant the first expiry already shows the one that governs (R152). -/
def LampUnit.atStep (l : LampUnit) (t : Settings) (i : Pin) (now : Instant) : LampUnit :=
  { l with
    stepTimers := l.stepTimers.set i none
    program := match l.program with
      | .scheduled green steps _ => .scheduled green steps (governingAt t green steps now)
      | .dark => .dark
      | .hold green pattern holdEnd => .hold green pattern holdEnd }

/-- Green (R155): every step counts as reached, the pattern is fixed, the hold begins; a hold whose end is already
reached ends at once (R3). -/
def LampUnit.atGreen (l : LampUnit) (t : Settings) (now : Instant) : LampUnit :=
  match l.program with
  | .scheduled green steps _ =>
    let holdEnd := green + millis t.greenHold
    if reached now holdEnd then l.drop
    else
      { l with
        program := .hold green (stepPattern t (governingStep steps fun _ => true)) holdEnd
        stepTimers := Four.replicate none
        greenTimer := none
        holdTimer := some holdEnd }
  | .dark | .hold _ _ _ => { l with greenTimer := none }

end Sys2Proof.Machine
end

