-- ==== Sys2Proof/Machine/Motion.lean ====
section
/-! DEFINITION. The arithmetic of car records: carrying a record forward, the arrival blend, display and decay
(R119 to R132). -/

namespace Sys2Proof.Machine

/-- The horizon in µs (R121). -/
def Settings.horizonMicros (t : Settings) : Nat := t.horizon * 1000

/-- The extrapolation interval of a record to a target instant (R121). -/
def carryInterval (t : Settings) (sample target : Instant) : Nat :=
  if interval sample target < 0 then 0
  else if (t.horizonMicros : Int) < interval sample target then t.horizonMicros
  else (interval sample target).toNat

/-- A record is STALE at a target instant when the interval exceeds the horizon (R121). -/
def staleAt (t : Settings) (sample target : Instant) : Bool :=
  decide ((t.horizonMicros : Int) < interval sample target)

/-- The step of a value by its rate over an interval: the exact quotient by 32,768 rounded to the nearest integer,
halves upward (R122). Division is floored. -/
def carryStep (rate : Word) (dt : Nat) : Int := (rate.toInt * (dt : Int) + 16384) / 32768

/-- A position carried forward saturates (R123). -/
def carryPosition (v : BitVec 24) (rate : Word) (dt : Nat) : BitVec 24 := saturate24 (v.toInt + carryStep rate dt)

/-- A heading carried forward wraps (R123). -/
def carryHeading (h : Word) (rate : Word) (dt : Nat) : Word := h + BitVec.ofInt 16 (carryStep rate dt)

/-- Progress carried forward saturates (R123). -/
def carryProgress (g : BitVec 32) (rate : Word) (dt : Nat) : BitVec 32 :=
  let v := (g.toNat : Int) + carryStep rate dt
  if v < 0 then 0 else if 4294967295 < v then 0xFFFFFFFF#32 else BitVec.ofInt 32 v

/-- The extrapolated values of a record at a target instant. -/
structure Carried where
  x : BitVec 24
  y : BitVec 24
  z : BitVec 24
  h : Word
  g : BitVec 32
  deriving DecidableEq, Repr

/-- A record carried forward to a target instant (R121 to R123): every component uses the same interval. -/
def CarValues.carry (c : CarValues) (t : Settings) (target : Instant) : Carried :=
  let dt := carryInterval t c.sample target
  { x := carryPosition c.x c.vx dt
    y := carryPosition c.y c.vy dt
    z := carryPosition c.z c.vz dt
    h := carryHeading c.h c.w dt
    g := carryProgress c.g c.q dt }

/-! ## The arrival blend (R125 to R128) -/

/-- The position threshold the surface class of the new record selects (R127). -/
def Settings.threshold (t : Settings) (c : Surface) : Nat := if t.surfaceMap.getLsbD c.code then t.th1 else t.th0

/-- The four errors of a blend (R126). -/
structure BlendErrors where
  ex : Int
  ey : Int
  ez : Int
  eh : Word
  deriving DecidableEq, Repr

/-- The old prediction plus the correction, less the new prediction, at A (R126). The heading error is read as signed. -/
def blendErrors (t : Settings) (d : Display) (old new : CarValues) (a : Instant) : BlendErrors :=
  let o := old.carry t a
  let n := new.carry t a
  { ex := o.x.toInt + d.cx - n.x.toInt
    ey := o.y.toInt + d.cy - n.y.toInt
    ez := o.z.toInt + d.cz - n.z.toInt
    eh := o.h + d.ch - n.h }

/-- An ordinary blend snaps (R127). -/
def blendSnaps (t : Settings) (d : Display) (old new : CarValues) (a : Instant) : Bool :=
  let e := blendErrors t d old new a
  let th := t.threshold new.surface
  staleAt t old.sample a || decide (th < e.ex.natAbs) || decide (th < e.ey.natAbs) || decide (th < e.ez.natAbs) ||
    decide (t.headingThreshold < e.eh.toInt.natAbs)

/-- A snap: the corrections become 0 and SNAPPED is set (R128). -/
def Display.snap (d : Display) : Display := { d with cx := 0, cy := 0, cz := 0, ch := 0, snapped := true }

/-- The arrival blend (R125, R128). old is the record held, none for the first record; fromLost tells a return from
LOST. -/
def arrivalBlend (t : Settings) (d : Display) (fromLost : Bool) (old : Option CarValues) (new : CarValues)
    (a : Instant) : Display :=
  match old with
  | none => d.snap
  | some o =>
    if fromLost || blendSnaps t d o new a then d.snap
    else
      let e := blendErrors t d o new a
      { d with cx := e.ex, cy := e.ey, cz := e.ez, ch := e.eh }

/-! ## Display and decay (R129 to R132) -/

/-- A correction moved toward 0 by max(1, floor(|C| / 2^k)); 0 stays 0 (R130). -/
def decay (k : Nat) (c : Int) : Int :=
  let m := c.natAbs - max 1 (c.natAbs / 2 ^ k)
  if c < 0 then -(m : Int) else (m : Int)

/-- The display group after an entry is shown carried forward to F (R129, R130): the last displayed values use the
corrections as they stood, and then the corrections decay. -/
def Display.showCarried (d : Display) (t : Settings) (c : CarValues) (f : Instant) : Display :=
  let e := c.carry t f
  { d with
    x := saturate24 (e.x.toInt + d.cx)
    y := saturate24 (e.y.toInt + d.cy)
    z := saturate24 (e.z.toInt + d.cz)
    h := e.h + d.ch
    g := e.g
    shown := true
    cx := decay t.blendShift d.cx
    cy := decay t.blendShift d.cy
    cz := decay t.blendShift d.cz
    ch := BitVec.ofInt 16 (decay t.blendShift d.ch.toInt) }

/-- The display group after an entry is shown at its stored values (R131, R132). -/
def Display.showStored (d : Display) (c : CarValues) : Display :=
  { d with x := c.x, y := c.y, z := c.z, h := c.h, g := c.g, shown := true }

/-- The display group after a held entry is shown (R131). -/
def Display.showHeld (d : Display) (c : CarValues) : Display := if d.shown then d else d.showStored c

end Sys2Proof.Machine
end

