-- ==== Sys2Proof/Machine/Frames.lean ====
section
/-! DEFINITION. Cabinet bus frames: their layout as bytes, the CRC-16, the four checks at completion, and the reading
of a valid frame's fields (R22 to R33). -/

namespace Sys2Proof.Machine

/-! ## The CRC-16 (R23) -/

/-- One bit of the CRC-16: polynomial x^16 + x^12 + x^5 + 1, most significant bit first. -/
def crc16Bit (c : Word) : Word := if c.msb then (c <<< 1) ^^^ 0x1021#16 else c <<< 1

/-- One byte of the CRC-16. -/
def crc16Byte (c : Word) (b : Byte) : Word :=
  crc16Bit (crc16Bit (crc16Bit (crc16Bit (crc16Bit (crc16Bit (crc16Bit (crc16Bit
    (c ^^^ (b.setWidth 16 <<< 8)))))))))

/-- The CRC-16 of a run of bytes, preset to all ones, not inverted. -/
def crc16 (bytes : List Byte) : Word := bytes.foldl crc16Byte 0xFFFF#16

/-! ## Sending (R22, R28) -/

/-- A two-byte field, most significant byte first. -/
def bytes2 (x : Word) : List Byte := [x.extractLsb' 8 8, x.extractLsb' 0 8]

/-- A three-byte field, most significant byte first. -/
def bytes3 (x : BitVec 24) : List Byte := [x.extractLsb' 16 8, x.extractLsb' 8 8, x.extractLsb' 0 8]

/-- A four-byte field, most significant byte first. -/
def bytes4 (x : BitVec 32) : List Byte :=
  [x.extractLsb' 24 8, x.extractLsb' 16 8, x.extractLsb' 8 8, x.extractLsb' 0 8]

/-- The kind code (R22). -/
def Payload.kindCode : Payload → Nat
  | .call _ _ => 1
  | .start _ => 2
  | .car _ => 3
  | .withdraw _ => 4

/-- The status byte of a CAR (R28, R31). -/
def CarReport.status (c : CarReport) : Byte :=
  BitVec.ofNat 8 (c.surface.code + (if c.finishAge.isSome then 4 else 0) + (if c.dnf then 8 else 0) +
    (if c.resend then 16 else 0))

/-- The payload's bytes (R28). -/
def Payload.bytes : Payload → List Byte
  | .call entered race => (if entered then 1#8 else 0#8) :: bytes2 race.signature ++ [race.laps]
  | .start p => bytes3 p.lead ++ p.mask :: bytes2 p.race.signature ++ [p.race.laps]
  | .car c =>
    bytes3 c.sampleAge ++ bytes3 c.x ++ bytes3 c.y ++ bytes3 c.z ++ bytes2 c.vx ++ bytes2 c.vy ++ bytes2 c.vz ++
      bytes2 c.h ++ bytes2 c.w ++ bytes4 c.g ++ bytes2 c.q ++ [c.status, c.laps] ++
      (match c.finishAge with
        | none => []
        | some a => bytes4 a)
  | .withdraw reason => [reason]

/-- Header byte 0: kind code, sender, race flag (R22). -/
def BusFrame.byte0 (f : BusFrame) : Byte :=
  BitVec.ofNat 8 (f.payload.kindCode * 16 + f.sender.val * 2 + (if f.raceFlag then 1 else 0))

/-- The header and payload as they depart (R22, R28). -/
def BusFrame.body (f : BusFrame) : List Byte :=
  f.byte0 :: f.sequence :: BitVec.ofNat 8 f.payload.bytes.length :: f.payload.bytes

/-- The bytes between the delimiters: header, payload and CRC (R20, R23). -/
def BusFrame.bytes (f : BusFrame) : List Byte := f.body ++ bytes2 (crc16 f.body)

/-! ## Receiving (R24, R29 to R33) -/

/-- The reasons of a discard (R24). -/
inductive Discard where
  | broken
  | crc
  | kind
  | length
  deriving DecidableEq, Repr

/-- What a completed frame comes to. -/
inductive Checked where
  | valid (f : BusFrame)
  | discarded (reason : Discard)
  deriving DecidableEq, Repr

/-- The byte at an offset from the first header byte. -/
def byteAt (b : List Byte) (i : Nat) : Byte := b.getD i 0

/-- A two-byte field at an offset. -/
def field2 (b : List Byte) (i : Nat) : Word := byteAt b i ++ byteAt b (i + 1)

/-- A three-byte field at an offset. -/
def field3 (b : List Byte) (i : Nat) : BitVec 24 := byteAt b i ++ byteAt b (i + 1) ++ byteAt b (i + 2)

/-- A four-byte field at an offset. -/
def field4 (b : List Byte) (i : Nat) : BitVec 32 :=
  byteAt b i ++ byteAt b (i + 1) ++ byteAt b (i + 2) ++ byteAt b (i + 3)

/-- The surface class in the two low status bits (R31). -/
def statusSurface (status : Byte) : Surface :=
  match status.toNat % 4 with
  | 0 => .onRoad
  | 1 => .offRoad
  | 2 => .airborne
  | _ => .spun

/-- The fields of a CAR as a receiver reads them (R31, R32). Status bits 7 to 5 are ignored. -/
def readCar (b : List Byte) : CarReport where
  sampleAge := field3 b 3
  x := field3 b 6
  y := field3 b 9
  z := field3 b 12
  vx := takeRate (field2 b 15)
  vy := takeRate (field2 b 17)
  vz := takeRate (field2 b 19)
  h := field2 b 21
  w := takeRate (field2 b 23)
  g := field4 b 25
  q := takeRate (field2 b 29)
  surface := statusSurface (byteAt b 31)
  dnf := (byteAt b 31).getLsbD 3
  resend := (byteAt b 31).getLsbD 4
  laps := byteAt b 32
  finishAge := if (byteAt b 31).getLsbD 2 then some (field4 b 33) else none

/-- The payload of a valid frame's kind code (R29 to R33): a CALL's lobby state of 1 is ENTERED, any other ATTRACT. -/
def readPayload (b : List Byte) (kind : Nat) : Payload :=
  match kind with
  | 1 => .call (decide (byteAt b 3 = 1#8)) ⟨field2 b 4, byteAt b 6⟩
  | 2 => .start ⟨field3 b 3, byteAt b 6, ⟨field2 b 7, byteAt b 9⟩⟩
  | 3 => .car (readCar b)
  | _ => .withdraw (byteAt b 3)

/-- The kind code of header byte 0. -/
def frameKind (b : List Byte) : Nat := (byteAt b 0).toNat / 16

/-- Check 4 of R24: the length agrees with the kind. -/
def lengthAgrees (b : List Byte) : Bool :=
  let n := (byteAt b 2).toNat
  match frameKind b with
  | 1 => decide (n = 4)
  | 2 => decide (n = 7)
  | 3 => if (byteAt b 31).getLsbD 2 then decide (n = 34) else decide (n = 30)
  | _ => decide (n = 1)

/-- The four checks at completion, in order, and the reading of a valid frame (R24, R25). -/
def checkFrame (b : List Byte) : Checked :=
  if b.length < 5 ∨ b.length ≠ 5 + (byteAt b 2).toNat then .discarded .broken
  else if crc16 (b.take (b.length - 2)) ≠ field2 b (b.length - 2) then .discarded .crc
  else if frameKind b < 1 ∨ 4 < frameKind b then .discarded .kind
  else if !lengthAgrees b then .discarded .length
  else .valid {
    sender := Fin.ofNat 8 ((byteAt b 0).toNat / 2)
    raceFlag := (byteAt b 0).getLsbD 0
    sequence := byteAt b 1
    payload := readPayload b (frameKind b) }

/-! ## Ages (R26) -/

/-- The sample age: the interval from S to the departure stamp, saturating at 16,777,215. -/
def sampleAge (sample departure : Instant) : BitVec 24 :=
  if (departure - sample).toNat < 16777215 then (departure - sample).setWidth 24 else 0xFFFFFF#24

/-- The finish age: the interval from the finish crossing to the departure stamp; its saturation at 4,294,967,295 is
the width of the field. -/
def finishAge (crossing departure : Instant) : BitVec 32 := departure - crossing

end Sys2Proof.Machine
end

