-- ==== Sys2Proof/Machine/Transmit.lean ====
section
/-! DEFINITION. The Transmitter's shared operations: the control queue, the CAR slot, which work is pending, the field
of an own START, departure, and what follows any event (R34 to R51, R80, R82). -/

namespace Sys2Proof.Machine

/-! ## The control queue (R35) -/

/-- The kind code of a control frame (R22). -/
def ControlFrame.kindCode : ControlFrame → Nat
  | .start => 2
  | .withdraw _ => 4

/-- The kind code of a source (R22, R45). -/
def Source.kindCode : Source → Nat
  | .start => 2
  | .withdraw _ => 4
  | .car => 3
  | .resend => 3
  | .call => 1

/-- A source that stands in the control queue. -/
def Source.isControl : Source → Bool
  | .start | .withdraw _ => true
  | .car | .resend | .call => false

/-- The source a queue entry stands for. -/
def ControlFrame.source : ControlFrame → Source
  | .start => .start
  | .withdraw r => .withdraw r

/-- The head of the queue is the current frame. -/
def Transmitter.headIsCurrent (t : Transmitter) : Bool :=
  match t.current with
  | none => false
  | some c => c.source.isControl

/-- A count of one more drop, with its event (R35, R45). At an overflow of the control queue R35 names no stamp: the tick
of that event is the model's choice (notes/assumptions/33.md). -/
def State.dropFrame (s : State) (kind : Nat) : State :=
  (s.setTx { s.tx with drops := satInc s.tx.drops }).post .txDropped s.own (BitVec.ofNat 16 kind) s.tick

/-- A control frame leaves a full queue to make room: the oldest that is not current (R35). It is told to the Race
Sequencer when it is the own START (R83). -/
def State.overflowControl (s : State) (left : ControlFrame) (rest : List ControlFrame) : State :=
  let s := (s.setTx { s.tx with queue := rest }).dropFrame left.kindCode
  if left = .start then s.setRace { s.race with proposal := .none } else s

/-- Room made in a full queue (R35). -/
def State.makeRoom (s : State) : State :=
  if s.tx.queue.length < 4 then s
  else
    match s.tx.headIsCurrent, s.tx.queue with
    | true, a :: b :: rest => s.overflowControl b (a :: rest)
    | true, [_] => s
    | _, a :: rest => s.overflowControl a rest
    | _, [] => s

/-- A control frame placed at the newest end (R35). -/
def State.placeControl (s : State) (c : ControlFrame) : State :=
  let s := s.makeRoom
  s.setTx { s.tx with queue := s.tx.queue ++ [c] }

/-- The queue without any START. -/
def withoutStart (q : List ControlFrame) : List ControlFrame := q.filter fun c => decide (c ≠ .start)

/-- The current frame dropped; the state is then IDLE or DEFER if it was BACKOFF (R46). A frame on the line goes on. -/
def Transmitter.dropCurrent (t : Transmitter) : Transmitter :=
  { t with current := none, phase := if t.phase = .backoff then .ready else t.phase }

/-- Removal of the own START, waiting, current or SENDING (R35). -/
def Transmitter.removeStart (t : Transmitter) : Transmitter :=
  let t' := { t with queue := withoutStart t.queue }
  match t.current with
  | some ⟨.start, _, _⟩ => t'.dropCurrent
  | _ => t'

/-- The Race Sequencer asks for the removal of a pending own START; the own proposal is then NONE (R79, R83, R87). -/
def State.removeProposal (s : State) : State :=
  let s' := if s.race.proposal = .pending then s.setTx s.tx.removeStart else s
  s'.setRace { s'.race with proposal := .none }

/-! ## The CAR slot (R36) -/

/-- The slot emptied, its finish mark cleared, its two timers stopped (R36, R38, R50). -/
def Transmitter.emptySlot (t : Transmitter) : Transmitter :=
  { t with slot := ⟨.empty, false, true⟩, spacingTimer := none, resendTimer := none }

/-- A posted car placed in the slot (R36). -/
def Transmitter.postCar (t : Transmitter) (c : CarValues) : Transmitter :=
  { t with slot := { t.slot with state := .unsent c, changed := true } }

/-- The slot is UNSENT. -/
def CarSlot.isUnsent (c : CarSlot) : Bool :=
  match c.state with
  | .unsent _ => true
  | .empty | .sent _ => false

/-- The slot is SENT. -/
def CarSlot.isSent (c : CarSlot) : Bool :=
  match c.state with
  | .sent _ => true
  | .empty | .unsent _ => false

/-- The slot is EMPTY. -/
def CarSlot.isEmpty (c : CarSlot) : Bool :=
  match c.state with
  | .empty => true
  | .unsent _ | .sent _ => false

/-- The slot's content. -/
def CarSlot.content (c : CarSlot) : Option CarValues :=
  match c.state with
  | .empty => none
  | .unsent v => some v
  | .sent v => some v

/-! ## Work pending (R37, R38, R41) -/

/-- A CALL is due (R37). -/
def State.callDue (s : State) : Bool :=
  s.race.own.isLobby && s.tx.callTimer.isNone && decide (s.tx.phase ≠ .stuck)

/-- The CAR candidate is eligible (R38). -/
def State.carEligible (s : State) : Bool := s.tx.slot.isUnsent && s.tx.spacingTimer.isNone

/-- The own race state is FINISHED or RESULTS. -/
def OwnState.resends : OwnState → Bool
  | .finished | .results => true
  | .offline | .attract | .entered | .countdown | .racing => false

/-- The resend candidate is eligible (R38). -/
def State.resendEligible (s : State) : Bool :=
  s.race.own.resends && s.tx.slot.isSent && s.tx.resendTimer.isNone

/-- The arbiter's choice (R41): the first eligible candidate; in OFFLINE only the control queue. -/
def State.candidate (s : State) : Option Source :=
  match s.tx.queue with
  | c :: _ => some c.source
  | [] =>
    if s.race.own = .offline then none
    else if s.carEligible then some .car
    else if s.resendEligible then some .resend
    else if s.callDue then some .call
    else none

/-- The frame that goes at the next start opportunity: the current frame held, else the arbiter's choice (R41). -/
def State.nextFrame (s : State) : Option Current :=
  match s.tx.current with
  | some c => some c
  | none => s.candidate.map fun x => ⟨x, 0, 0⟩

/-- Work is pending (R34). -/
def State.workPending (s : State) : Bool := s.nextFrame.isSome

/-- The line is open to this station (R40). -/
def State.lineOpen (s : State) : Bool :=
  match s.tx.opportunity with
  | none => false
  | some o => reached s.tick o

/-- The Transmitter may begin a frame (R34): from IDLE, DEFER or BACKOFF. -/
def TxPhase.mayBegin : TxPhase → Bool
  | .ready | .backoff => true
  | .sending | .stuck | .disabled => false

/-- The source of a current frame still exists (R46). -/
def State.sourceExists (s : State) (x : Source) : Bool :=
  match x with
  | .start => s.tx.queue.any fun c => decide (c = .start)
  | .withdraw _ => true
  | .car => !s.tx.slot.isEmpty
  | .resend => !s.tx.slot.isEmpty && s.race.own.resends
  | .call => s.race.own.isLobby

/-- A current frame whose source has ceased to exist is lost, unless it is SENDING (R46). -/
def State.loseCurrent (s : State) : State :=
  match s.tx.current with
  | none => s
  | some c =>
    if s.tx.phase ≠ .sending ∧ s.sourceExists c.source = false then s.setTx s.tx.dropCurrent else s

/-! ## The field (R80) -/

/-- A peer counts towards the field: ENTERED, with lobby info equal to the own signature and laps (R80). -/
def State.inField (s : State) (p : Station) : Bool :=
  decide (p = s.own) ||
    (decide ((s.entry p).state = .entered) && (s.entry p).lobby.isSome && decide ((s.entry p).lobby = s.race.entry))

/-- The stations of the field. -/
def State.field (s : State) : List Station := stations.filter s.inField

/-! ## Departure (R42) -/

/-- The race flag of a departing frame (R22). -/
def State.raceFlag (s : State) : Bool := s.race.own.isRace

/-- The own results record is in category DNF, in RESULTS (R31). -/
def State.ownDnf (s : State) : Bool :=
  decide (s.race.own = .results) &&
    (s.race.results.getD []).any fun r => decide (r.station = s.own) && decide (r.category = .dnf)

/-- The own finish crossing instant: origin plus own finish (R104). -/
def State.ownCrossing (s : State) : Instant :=
  (s.race.record.elim 0 RaceRecord.green) + s.ownFinish.getD 0

/-- A CAR's payload at a departure (R26, R31, R32, R42, R115). -/
def State.carReport (s : State) (c : CarValues) : CarReport where
  sampleAge := if s.race.ceilingMark then 0xFFFFFF#24 else sampleAge c.sample s.tick
  x := c.x
  y := c.y
  z := c.z
  vx := c.vx
  vy := c.vy
  vz := c.vz
  h := c.h
  w := c.w
  g := c.g
  q := c.q
  surface := c.surface
  dnf := s.ownDnf
  resend := s.tx.slot.isSent
  laps := BitVec.ofNat 8 s.race.lapCount
  finishAge :=
    if s.tx.slot.finishMark then
      some (if s.race.ceilingMark then 0xFFFFFFFF#32 else finishAge s.ownCrossing s.tick)
    else none

/-- A car of zeros, which no departure sends: a CAR departs only with content in the slot. -/
def CarValues.zero : CarValues := ⟨0, 0, 0, 0, 0, 0, 0, 0, 0, 0, 0, .onRoad⟩

/-- The payload fixed at departure, by source (R29 to R33, R42, R82). -/
def State.payload (s : State) (x : Source) : Payload :=
  match x with
  | .start =>
    .start ⟨BitVec.ofNat 24 (s.settings.startLead * 1000), maskOf s.inField, s.race.entry.getD ⟨0, 0⟩⟩
  | .withdraw r => .withdraw r
  | .car => .car (s.carReport (s.tx.slot.content.getD CarValues.zero))
  | .resend => .car (s.carReport (s.tx.slot.content.getD CarValues.zero))
  | .call =>
    if s.race.own = .entered then .call true (s.race.entry.getD ⟨0, 0⟩) else .call false ⟨0, 0⟩

/-- A CAR attempted again goes as a CAR or as a resend by the slot's condition at this departure (R42, R46). -/
def State.refreshSource (s : State) (x : Source) : Source :=
  match x with
  | .car => if s.tx.slot.isSent then .resend else .car
  | .resend => if s.tx.slot.isSent then .resend else .car
  | .start => .start
  | .withdraw r => .withdraw r
  | .call => .call

/-- The frame that departs now (R42). -/
def State.ownFrame (s : State) (x : Source) : BusFrame :=
  ⟨s.own, s.raceFlag, s.tx.sequence, s.payload x⟩

/-- Departure of a frame (R42): the stamp and the content are fixed, the state is SENDING, and the open line ends with
the own start delimiter (R40). -/
def State.depart (s : State) (c : Current) : State :=
  let x := s.refreshSource c.source
  s.setTx { s.tx with
    phase := .sending
    current := some ⟨x, c.collisions, 0⟩
    inFlight := some ⟨s.tick, x, s.ownFrame x⟩
    opportunity := none
    slot := { s.tx.slot with changed := false } }

/-- An own START withdrawn at its departure (R82). -/
def State.withdrawStart (s : State) : State :=
  let s1 := s.setTx s.tx.removeStart
  let s2 := s1.setTx { s1.tx with current := none, phase := .ready }
  let s3 := s2.setRace { s2.race with proposal := .none, lobbyTimer := s2.start (seconds s2.settings.lobbyWindow) }
  s3.post .lobbyExtended s3.own (BitVec.ofNat 16 s3.field.length) s3.tick

/-- The field is below the minimum field (R81, R82). -/
def State.fieldShort (s : State) : Bool := decide (s.field.length < s.settings.minField)

/-- A start opportunity taken with what goes next (R40, R41, R42, R82). A START withdrawn at departure gives way to the
next candidate at the same opportunity; there is at most one, so one more choice is enough. -/
def State.arbitrate (s : State) : State :=
  match s.nextFrame with
  | none => s
  | some c =>
    if c.source = .start ∧ s.fieldShort = true then
      let s' := s.withdrawStart
      match s'.nextFrame with
      | none => s'
      | some c' => s'.depart c'
    else s.depart c

/-! ## After any event (R34, R40, R46) -/

/-- What the Transmitter does at the end of any event. A current frame whose source is gone is lost (R46). An event
that makes work pending while the line is open is itself a start opportunity (R34, R40; notes/assumptions/9.md). -/
def settle (before after : State) : State :=
  let s := after.loseCurrent
  if before.workPending = false ∧ s.workPending = true ∧ s.lineOpen = true ∧ s.tx.phase = .ready then s.arbitrate
  else s

/-- The outcome of a command that takes the part from one state to another. -/
def done (before after : State) : Host.Outcome State Fault Refusal := .next (settle before after)

/-- The Transmitter state the part shows (R34, R164). -/
inductive TxState where
  | idle
  | defer
  | sending
  | backoff
  | stuck
  | disabled
  deriving DecidableEq, Repr

/-- The Transmitter state as it stands: IDLE and DEFER follow from whether work is pending (R34), after a RESTART from a
race state too, where R51's table says IDLE (notes/assumptions/10.md). -/
def State.txState (s : State) : TxState :=
  match s.tx.phase with
  | .ready => if s.workPending then .defer else .idle
  | .sending => .sending
  | .backoff => .backoff
  | .stuck => .stuck
  | .disabled => .disabled

end Sys2Proof.Machine
end

