-- ==== Sys2Proof/Machine/Peers.lean ====
section
/-! DEFINITION. The Peer Table's operations: reception, presence, seating and unseating, and what each kind of frame
does to its sender's entry (R54 to R74). -/

namespace Sys2Proof.Machine

/-! ## Entries (R55, R64, R72) -/

/-- An entry becomes ABSENT (R55, R62, R134). The race flag, DNF and RESEND stay (R55 does not name them). -/
def Entry.toAbsent (e : Entry) : Entry :=
  { e with
    state := .absent
    lastHeard := none
    lastSequence := none
    window := []
    presenceTimer := none
    lostTimer := none
    lobby := none
    car := none
    finish := none
    display := Display.clear }

/-- An entry is seated (R64). -/
def Entry.seat (e : Entry) : Entry :=
  { e with
    state := .grid
    car := none
    finish := none
    presenceTimer := none
    lostTimer := none
    display := Display.clear }

/-- An entry unseated into PRESENT (R72). -/
def Entry.unseatPresent (e : Entry) (timer : Timer) : Entry :=
  { e with
    state := .present
    car := none
    finish := none
    presenceTimer := timer
    lostTimer := none
    display := Display.clear }

/-- An entry unseated (R72). -/
def Entry.unseat (e : Entry) (timer : Timer) : Entry :=
  match e.state with
  | .absent | .present | .entered | .elsewhere => e
  | .lost => e.toAbsent
  | .grid | .racing | .finished | .retired => if e.lastHeard.isSome then e.unseatPresent timer else e.toAbsent

/-- Every station of the mask but the own one is seated (R64). -/
def State.seatMask (s : State) (mask : Byte) : State :=
  s.mapEntries fun p e => if inMask mask p && decide (p ≠ s.own) then e.seat else e

/-- PEER_GONE, detail 7, for a LOST station that is unseated (R72). -/
def State.postGone (s : State) (leave : Station → Bool) (stamp : Instant) (before : State) : State :=
  stations.foldl (fun t p =>
    if leave p && decide ((before.entry p).state = .lost) then t.post .peerGone p 7 stamp else t) s

/-- The stations a test picks are unseated, if they hold a race state (R72). PEER_GONE is posted in rising station order:
at a START R84 says so; at QUIT and ACK_RESULTS the manual gives no order, and this one is the model's
(notes/assumptions/16.md). -/
def State.unseatWhere (s : State) (leave : Station → Bool) (stamp : Instant) : State :=
  (s.mapEntries fun p e => if leave p then e.unseat (s.start presenceTime) else e).postGone leave stamp s

/-! ## Reception (R57, R58) -/

/-- The quality window after a frame (R58). The first frame since the entry was last ABSENT leaves 15 missed and 1
received; else g missed positions and one received join. -/
def shiftWindow (window : List Bool) (last : Option Byte) (sequence : Byte) : List Bool :=
  match last with
  | none => List.replicate 15 false ++ [true]
  | some l =>
    let g := (sequence - l - 1).toNat
    let w := window ++ List.replicate g false ++ [true]
    w.drop (w.length - 16)

/-- The reception fields after a frame (R57). -/
def Entry.receive (e : Entry) (f : BusFrame) (a : Instant) : Entry :=
  { e with
    lastHeard := some a
    lastSequence := some f.sequence
    window := shiftWindow e.window e.lastSequence f.sequence
    raceFlag := f.raceFlag
    dnf := match f.payload with
      | .car c => c.dnf
      | _ => e.dnf
    resend := match f.payload with
      | .car c => c.resend
      | _ => e.resend }

/-- The sender's reception fields are updated (R57). -/
def State.receiveFields (s : State) (f : BusFrame) (a : Instant) : State :=
  s.setEntry f.sender ((s.entry f.sender).receive f a)

/-- A frame reaching an ABSENT entry makes it PRESENT, with PEER_JOINED (R59). -/
def State.joinSender (s : State) (f : BusFrame) (a : Instant) : State :=
  let e := s.entry f.sender
  if e.state = .absent then
    (s.setEntry f.sender { e with state := .present }).post .peerJoined f.sender
      (BitVec.ofNat 16 f.payload.kindCode) a
  else s

/-- The presence timer of a sender left in a lobby state other than ABSENT is restarted from A (R59). -/
def State.restartPresence (s : State) (p : Station) (a : Instant) : State :=
  let e := s.entry p
  if e.state = .absent ∨ e.state.isRace = true then s
  else s.setEntry p { e with presenceTimer := some (a + presenceTime) }

/-- The silence timer and its marks at a frame from another station (R73). -/
def State.hearLink (s : State) (f : BusFrame) (a : Instant) : State :=
  let t := s.setPeers { s.peers with silenceTimer := some (a + silenceTime), heard := true, silent := false }
  if s.peers.silent then t.post .linkHeard f.sender (BitVec.ofNat 16 f.payload.kindCode) a else t

/-! ## What each kind does (R60, R61, R66 to R70) -/

/-- A participant that has left our race becomes RETIRED (R70). -/
def State.retire (s : State) (p : Station) (detail : Word) (a : Instant) : State :=
  let e := s.entry p
  if e.state.isRace = true ∧ e.state ≠ .retired then
    (s.setEntry p { e with state := .retired, lostTimer := none }).post .peerRetired p detail a
  else s

/-- The lobby state after a CALL (R60). -/
def EntryState.afterCall (st : EntryState) (entered : Bool) : EntryState :=
  match st, entered with
  | .present, true => .entered
  | .entered, false => .present
  | .elsewhere, true => .entered
  | .elsewhere, false => .present
  | st, _ => st

/-- A CALL (R60, R70): the lobby info is stored, and the lobby state moves or the participant retires. -/
def State.hearCall (s : State) (p : Station) (entered : Bool) (race : LobbyInfo) (a : Instant) : State :=
  let st := (s.entry p).state
  let t := s.setEntry p { s.entry p with lobby := some race, state := st.afterCall entered }
  if st = .present ∧ entered = true then t.post .peerEntered p (race.laps.setWidth 16) a
  else if st = .entered ∧ entered = false then t.post .peerLeftLobby p 0 a
  else t.retire p 0 a

/-- A CAR or a START from a station not racing with us shows it ELSEWHERE (R61). -/
def State.toElsewhere (s : State) (p : Station) : State :=
  let e := s.entry p
  if e.state = .present ∨ e.state = .entered then s.setEntry p { e with state := .elsewhere } else s

/-- The car values of a report, with its sample instant (R27, R120). -/
def CarReport.values (c : CarReport) (a : Instant) : CarValues :=
  ⟨a - c.sampleAge.setWidth 32, c.x, c.y, c.z, c.vx, c.vy, c.vz, c.h, c.w, c.g, c.q, c.surface⟩

/-- A CAR is accepted in this entry state (R66). -/
def EntryState.acceptsCar : EntryState → Bool
  | .grid | .racing | .finished | .lost => true
  | .absent | .present | .entered | .elsewhere | .retired => false

/-- A report is stored, unless the record held has a later sample instant and the entry is not LOST (R66). -/
def Entry.stores (e : Entry) (new : CarValues) : Bool :=
  match e.car with
  | none => true
  | some old => decide (e.state = .lost) || decide (interval new.sample old.car.sample ≤ 0)

/-- The entry with an accepted report stored and blended, and its lost timer restarted (R66, R125). -/
def Entry.storeCar (e : Entry) (t : Settings) (c : CarReport) (a : Instant) : Entry :=
  let new := c.values a
  let e' := { e with lostTimer := some (a + millis t.lostTimeout) }
  if e.stores new then
    { e' with
      display := arrivalBlend t e.display (decide (e.state = .lost)) (e.car.map CarRecord.car) new a
      car := some ⟨new, c.laps, c.finishAge.isSome, none⟩ }
  else e'

/-- The entry state after an accepted report's FINISHED bit (R67, R69). -/
def EntryState.afterCar (st : EntryState) (finished : Bool) : EntryState :=
  match st, finished with
  | .racing, true => .finished
  | .lost, true => .finished
  | .lost, false => .racing
  | st, _ => st

/-- A CAR at the Peer Table (R61, R66 to R69). -/
def State.hearCar (s : State) (p : Station) (c : CarReport) (a : Instant) : State :=
  let e := s.entry p
  if e.state.acceptsCar then
    let finished := c.finishAge.isSome
    let e' := e.storeCar s.settings c a
    let s := s.setEntry p { e' with state := e.state.afterCar finished }
    let s := if e.state = .lost then s.post .peerReturned p (c.laps.setWidth 16) a else s
    if finished = true ∧ (e.state = .racing ∨ (e.state = .lost ∧ e.finish = none)) then
      s.post .peerFinished p (c.laps.setWidth 16) a
    else s
  else s.toElsewhere p

/-! ## The table cleared (R74) -/

/-- GO_OFFLINE and the move to OFFLINE after a duplicate station clear the table (R74, R75). -/
def State.clearTable (s : State) : State := s.setPeers PeerTable.initial

end Sys2Proof.Machine
end

