-- ==== Sys2Proof/Machine/Race.lean ====
section
/-! DEFINITION. The Race Sequencer's shared operations: the race record, hearing a START, leaving a race, the move to
OFFLINE, finishes, the results list and the close (R84 to R118). -/

namespace Sys2Proof.Machine

/-! ## The race record (R86) -/

/-- The record of a START heard with bus instant a. -/
def makeRecord (proposer : Station) (q : StartProposal) (a : Instant) : RaceRecord :=
  ⟨proposer, a + q.lead.setWidth 32, false, q.race, q.mask⟩

/-- The lock instant: green less 1,000,000 µs. -/
def RaceRecord.lock (r : RaceRecord) : Instant := r.green - micros lockMargin

/-- The record put in force, with its lock and green timers and its lamp schedule (R87, R92). A lock instant already
reached locks the record from the start (R3, R87). -/
def State.beginRecord (s : State) (r : RaceRecord) : State :=
  let hit := reached s.tick r.lock
  (s.setRace { s.race with
    record := some { r with locked := hit }
    lockTimer := if hit then none else some r.lock
    greenTimer := some r.green }).setLamp (s.lamp.schedule s.settings s.tick r.green)

/-- The stations of the adopted race's mask, the own station among them (R63). -/
def State.participants (s : State) : List Station :=
  match s.race.record with
  | none => []
  | some r => stations.filter (inMask r.mask)

/-- The race origin (R86). -/
def State.origin (s : State) : Instant := s.race.record.elim 0 RaceRecord.green

/-! ## Leaving the race (R89, R118) -/

/-- Every race item of the Race Sequencer cleared; own state, entry, lobby timer and proposal kept (R89, R118). -/
def Sequencer.clearRace (q : Sequencer) : Sequencer :=
  { q with
    record := none
    lockTimer := none
    greenTimer := none
    lapCount := 0
    lapList := []
    earliest := none
    graceTimer := none
    limitTimer := none
    ceilingTimer := none
    ceilingMark := false
    results := none }

/-- A peer entry that holds a race state. -/
def State.seated (s : State) (p : Station) : Bool := decide (p ≠ s.own) && (s.entry p).state.isRace

/-- The own entry's car record and finish discarded (R56, R89). -/
def State.dropOwnCar (s : State) : State := s.setEntry s.own { s.entry s.own with car := none, finish := none }

/-- This station leaves its race (R89); the caller then sets the own race state. PEER_GONE is posted for each LOST
participant (R72), at ACK_RESULTS too, of which R117 says that no event is posted (notes/assumptions/35.md). -/
def State.leaveRace (s : State) (stamp : Instant) : State :=
  let s := (s.unseatWhere s.seated stamp).dropOwnCar
  ((s.setRace s.race.clearRace).setTx s.tx.emptySlot).setLamp s.lamp.drop

/-! ## Hearing a START (R84 to R93) -/

/-- Adoption (R87). -/
def State.adopt (s : State) (p : Station) (q : StartProposal) (a : Instant) : State :=
  let s := s.beginRecord (makeRecord p q a)
  let s := s.setRace { s.race with lobbyTimer := none }
  let s := if p = s.own then s.setRace { s.race with proposal := .none } else s.removeProposal
  ((s.seatMask q.mask).setOwn .countdown).post .startAdopted p (q.mask.setWidth 16) a

/-- The stations of a mask that left without this one become ELSEWHERE (R61, R88). -/
def State.markElsewhere (s : State) (mask : Byte) (a : Instant) : State :=
  s.mapEntries fun p e =>
    if inMask mask p && decide (p ≠ s.own) then
      { e with
        state := .elsewhere
        presenceTimer := if e.state = .absent then some (a + presenceTime) else e.presenceTimer }
    else e

/-- A missed start in ENTERED (R88). -/
def State.missStart (s : State) (p : Station) (q : StartProposal) (a : Instant) : State :=
  (s.post .startMissed p (q.mask.setWidth 16) a).markElsewhere q.mask a

/-- A START heard in ENTERED (R85). -/
def State.testAdoption (s : State) (p : Station) (q : StartProposal) (a : Instant) : State :=
  if s.race.entry ≠ some q.race then s
  else if inMask q.mask s.own = false then s.missStart p q a
  else if q.lead.toNat < lockMargin then s.post .startLate p 1 a
  else s.adopt p q a

/-- A START's green replaces the record's (R91, test 3): earlier by more than 2,000 µs, or a tie won by the lower
proposer. -/
def RaceRecord.yieldsTo (r : RaceRecord) (p : Station) (green : Instant) : Bool :=
  let d := interval green r.green
  decide (2000 < d) || (decide (-2000 ≤ d) && decide (p.val < r.proposer.val))

/-- A replacement that includes this station (R92). -/
def State.replaceWith (s : State) (p : Station) (q : StartProposal) (a : Instant) : State :=
  let s := (s.beginRecord (makeRecord p q a)).post .startReplaced p (q.mask.setWidth 16) a
  (s.unseatWhere (fun x => s.seated x && !inMask q.mask x) a).seatMask q.mask

/-- A replacement that excludes this station (R93). -/
def State.replaceWithout (s : State) (p : Station) (q : StartProposal) (a : Instant) : State :=
  let s := ((s.post .startMissed p (q.mask.setWidth 16) a).leaveRace a).setOwn .entered
  let s := s.setRace { s.race with lobbyTimer := s.start (seconds s.settings.lobbyWindow), proposal := .none }
  s.markElsewhere q.mask a

/-- A START heard in COUNTDOWN with the record not locked (R91). -/
def State.testReplacement (s : State) (r : RaceRecord) (p : Station) (q : StartProposal) (a : Instant) : State :=
  if r.race ≠ q.race then s
  else if q.lead.toNat < lockMargin then s.post .startLate p 1 a
  else if r.yieldsTo p (a + q.lead.setWidth 32) then
    if inMask q.mask s.own then s.replaceWith p q a else s.replaceWithout p q a
  else s

/-- The Race Sequencer's decision on a START (R84). -/
def State.decideStart (s : State) (p : Station) (q : StartProposal) (a : Instant) : State :=
  match s.race.own, s.race.record with
  | .offline, _ => s
  | .attract, _ => s
  | .entered, _ => s.testAdoption p q a
  | .countdown, none => s
  | .countdown, some r => if r.locked then s.post .startLate p 2 a else s.testReplacement r p q a
  | .racing, _ => s.post .startLate p 2 a
  | .finished, _ => s.post .startLate p 2 a
  | .results, _ => s.post .startLate p 2 a

/-- A START at the Race Sequencer and the Peer Table: a sender left PRESENT or ENTERED becomes ELSEWHERE (R61), a
participant that its own replacing START has just unseated too (R71, R92, R93; notes/assumptions/17.md). -/
def State.hearStart (s : State) (p : Station) (q : StartProposal) (a : Instant) : State :=
  (s.decideStart p q a).toElsewhere p

/-! ## The move to OFFLINE (R49, R50, R74, R96, R174) -/

/-- The current frame is a WITHDRAW. -/
def Current.isWithdraw (c : Current) : Bool :=
  match c.source with
  | .withdraw _ => true
  | .start | .car | .resend | .call => false

/-- The Transmitter at the move to OFFLINE (R50, R51): STARTs removed, the slot emptied, the CALL timer stopped, the
current frame kept only if it is a WITHDRAW. -/
def Transmitter.goOffline (t : Transmitter) : Transmitter :=
  let t := { t.emptySlot with queue := withoutStart t.queue, callTimer := none }
  match t.current with
  | none => t
  | some c => if c.isWithdraw then t else t.dropCurrent

/-- The own race state becomes OFFLINE, with its effects on the other blocks. -/
def State.toOffline (s : State) : State :=
  (((s.setTx s.tx.goOffline).setRace Sequencer.initial).clearTable).setLamp s.lamp.drop

/-! ## Results (R111 to R114) -/

/-- A finish counts: every written one at an all-done close, else one not later than the governing end (R111). -/
def finishCounts (limit : Option (BitVec 32)) (finish : BitVec 32) : Bool :=
  match limit with
  | none => true
  | some e => decide (0 ≤ interval finish e)

/-- The category of a participant (R111). -/
def State.category (s : State) (limit : Option (BitVec 32)) (p : Station) : Category :=
  if (s.entry p).finish.any (finishCounts limit) then .finished
  else if p = s.own then .dnf
  else
    match (s.entry p).state with
    | .lost => .lost
    | .retired => .retired
    | .absent | .present | .entered | .elsewhere | .grid | .racing | .finished => .dnf

/-- The lap times of a list of crossings, the first counted from a given race time (R102, R113). -/
def lapTimes : BitVec 32 → List (BitVec 32) → List (BitVec 32)
  | _, [] => []
  | previous, c :: rest => (c - previous) :: lapTimes c rest

/-- The smaller of two lap times. -/
def shorter (a b : BitVec 32) : BitVec 32 := if b.toNat < a.toNat then b else a

/-- The smallest lap time (R113). -/
def bestLap (crossings : List (BitVec 32)) : Option (BitVec 32) :=
  match lapTimes 0 crossings with
  | [] => none
  | a :: rest => some (rest.foldl shorter a)

/-- A participant's results record (R113). -/
def State.resultRecord (s : State) (limit : Option (BitVec 32)) (p : Station) : ResultRecord where
  station := p
  category := s.category limit p
  finish := (s.entry p).finish
  progress := (s.entry p).car.map fun c => c.car.g
  laps := if p = s.own then BitVec.ofNat 8 s.race.lapCount else (s.entry p).car.elim 0 CarRecord.laps
  bestLap := if p = s.own then bestLap s.race.lapList else none

/-- The code of a category, which is also the order of the four groups (R114, R116). -/
def Category.code : Category → Nat
  | .finished => 0
  | .dnf => 1
  | .lost => 2
  | .retired => 3

/-- The key of a record within its group, smaller first (R114). -/
def ResultRecord.key (r : ResultRecord) : Nat :=
  match r.category with
  | .finished => (r.finish.getD 0).toNat
  | .dnf => 4294967295 - (r.progress.getD 0).toNat
  | .lost => 4294967295 - (r.progress.getD 0).toNat
  | .retired => 0

/-- Record a ranks before record b (R114): by group, then by key, then by station number. -/
def ResultRecord.before (a b : ResultRecord) : Bool :=
  decide (a.category.code < b.category.code) ||
    (decide (a.category.code = b.category.code) &&
      (decide (a.key < b.key) || (decide (a.key = b.key) && decide (a.station.val < b.station.val))))

/-- A record put at its place in a ranked list. -/
def insertRanked (r : ResultRecord) : List ResultRecord → List ResultRecord
  | [] => [r]
  | x :: rest => if r.before x then r :: x :: rest else x :: insertRanked r rest

/-- The records in rank order (R114). -/
def ranked (l : List ResultRecord) : List ResultRecord := l.foldr insertRanked []

/-- The results list for a governing end, from the table as it stands (R76, R113, R116). -/
def State.resultsFor (s : State) (limit : Option (BitVec 32)) : List ResultRecord :=
  ranked (s.participants.map (s.resultRecord limit))

/-- A station's rank in a results list, counted from 1; 0 when it is not in the list. -/
def rankOf (l : List ResultRecord) (p : Station) : Nat :=
  match l.findIdx? fun r => decide (r.station = p) with
  | none => 0
  | some i => i + 1

/-! ## The close (R107 to R110) -/

/-- The close of the race (R110). expired tells a limit close, which posts RACE_EXPIRED first. The close instant that both
records carry is the tick of the event that closes the race, whatever that event is, by the model's choice
(notes/assumptions/42.md). -/
def State.close (s : State) (limit : Option (BitVec 32)) (expired : Bool) : State :=
  let list := s.resultsFor limit
  let t := (s.setRace { s.race with
    graceTimer := none
    limitTimer := none
    ceilingTimer := some (s.origin + ceilingTime)
    results := some list }).setOwn .results
  let t :=
    if expired then
      t.post .raceExpired t.own (word (list.countP fun r => decide (r.category = .finished))) t.tick
    else t
  t.post .resultsFinal t.own (word (rankOf list t.own)) t.tick

/-- The grace end (R107). -/
def State.graceEnd (s : State) : BitVec 32 := s.race.earliest.getD 0 + seconds s.settings.finishGrace

/-- The limit end (R108). -/
def State.limitEnd (s : State) : BitVec 32 := seconds s.settings.raceLimit

/-- The own race state is RACING or FINISHED. -/
def OwnState.isRunning : OwnState → Bool
  | .racing | .finished => true
  | .offline | .attract | .entered | .countdown | .results => false

/-- The close by a grace instant already reached, where the grace close timer has just been restarted (R3, R107). -/
def State.closeIfGraceReached (s : State) (restarted : Bool) : State :=
  if restarted && s.race.own.isRunning && s.race.graceTimer.due s.tick then s.close (some s.graceEnd) false else s

/-- An entry counts as done (R109). -/
def EntryState.isDone : EntryState → Bool
  | .finished | .lost | .retired => true
  | .absent | .present | .entered | .elsewhere | .grid | .racing => false

/-- The all-done condition (R109). -/
def State.allDone (s : State) : Bool :=
  decide (s.race.own = .finished) &&
    s.participants.all fun p => decide (p = s.own) || (s.entry p).state.isDone

/-- The close by all-done, where the condition holds (R109). -/
def State.closeIfAllDone (s : State) : State := if s.allDone then s.close none false else s

/-- A finish becomes the earliest finish (R107). -/
def State.isEarliest (s : State) (finish : BitVec 32) : Bool :=
  s.race.earliest.all fun e => decide (finish.toNat < e.toNat)

/-- A finish joins the earliest finish and the grace close timer (R107). -/
def State.joinEarliest (s : State) (finish : BitVec 32) : State :=
  if s.isEarliest finish then
    s.setRace { s.race with
      earliest := some finish
      graceTimer := some (s.origin + finish + seconds s.settings.finishGrace + settleMargin) }
  else s

/-- A finish is written into a station's entry and joins the earliest finish (R103, R105, R107). -/
def State.writeFinish (s : State) (p : Station) (finish : BitVec 32) : State :=
  (s.setEntry p { s.entry p with finish := some finish }).joinEarliest finish

/-- The finish of an accepted CAR from a participant, after the Peer Table has applied it (R105). -/
def State.hearFinish (s : State) (p : Station) (c : CarReport) (a : Instant) : State :=
  match c.finishAge with
  | none => s
  | some age =>
    let finish := a - age - s.origin
    if (s.entry p).finish = none ∧ s.race.own.isRunning = true ∧ (s.entry p).state = .finished ∧ 0 < finish.toInt then
      (s.writeFinish p finish).closeIfGraceReached (s.isEarliest finish)
    else s

end Sys2Proof.Machine
end

