-- ==== Sys2Proof/Machine/Images.lean ====
section
/-! DEFINITION. The Image Builder: starting a build, reading an entry, completion with the live rank, opening an image
and the image as the 128 words of the window (R136 to R149), with the meanings of BUILD_ENTRY_READ and
BUILD_COMPLETION. -/

namespace Sys2Proof.Machine

/-! ## Banks (R136) -/

/-- Every bank replaced by a function of itself. -/
def ImageBuilder.mapBanks (b : ImageBuilder) (f : Bank → Bank) : ImageBuilder :=
  { b with bank0 := f b.bank0, bank1 := f b.bank1, bank2 := f b.bank2 }

/-- The three banks in number order. -/
def ImageBuilder.banks (b : ImageBuilder) : List Bank := [b.bank0, b.bank1, b.bank2]

/-- The image a bank is filling. -/
def Bank.fillingImage : Bank → Option Image
  | .filling i => some i
  | .free | .ready _ | .opened _ => none

/-- The image a READY bank holds. -/
def Bank.readyImage : Bank → Option Image
  | .ready i => some i
  | .free | .filling _ | .opened _ => none

/-- The image an OPEN bank holds. -/
def Bank.openImage : Bank → Option Image
  | .opened i => some i
  | .free | .filling _ | .ready _ => none

/-- The image being built. -/
def ImageBuilder.filling (b : ImageBuilder) : Option Image := b.banks.findSome? Bank.fillingImage

/-- The READY image. -/
def ImageBuilder.ready (b : ImageBuilder) : Option Image := b.banks.findSome? Bank.readyImage

/-- The OPEN image. -/
def ImageBuilder.opened (b : ImageBuilder) : Option Image := b.banks.findSome? Bank.openImage

/-- The lowest-numbered FREE bank becomes FILLING; none when no bank is FREE (R137). -/
def ImageBuilder.fill (b : ImageBuilder) (i : Image) : Option ImageBuilder :=
  match b.bank0, b.bank1, b.bank2 with
  | .free, _, _ => some { b with bank0 := .filling i }
  | _, .free, _ => some { b with bank1 := .filling i }
  | _, _, .free => some { b with bank2 := .filling i }
  | _, _, _ => none

/-- The image in the FILLING bank replaced. -/
def ImageBuilder.write (b : ImageBuilder) (i : Image) : ImageBuilder :=
  b.mapBanks fun k =>
    match k with
    | .filling _ => .filling i
    | k => k

/-! ## The start of a build (R137, R141) -/

/-- The race time at F (R141). -/
def State.raceTimeAt (s : State) (f : Instant) : BitVec 32 :=
  match s.race.own with
  | .racing => f - s.origin
  | .finished => f - s.origin
  | .results => if s.race.ceilingMark then ceilingTime else f - s.origin
  | .offline | .attract | .entered | .countdown => 0

/-- The time to green in ms (R141). -/
def State.timeToGreen (s : State) (f : Instant) : Word :=
  match s.race.own with
  | .countdown => if interval f s.origin ≤ 0 then 0 else word ((interval f s.origin).toNat / 1000)
  | .offline | .attract | .entered | .racing | .finished | .results => 0

/-- The participant mask of the header (R141). -/
def State.headerMask (s : State) : Byte := if s.race.own.isRace then s.race.record.elim 0 RaceRecord.mask else 0

/-- The image at the start of its build: the fields that do not depend on the entries. The present mask, the live rank
list and the records, which the manual leaves open until they are written (R140), stand at 0, empty and blank
(notes/assumptions/19.md). -/
def State.startImage (s : State) (number : Word) (f : Instant) : Image where
  sequence := number
  capture := f
  period := s.frame.period.getD 0
  own := s.race.own
  raceTime := s.raceTimeAt f
  timeToGreen := s.timeToGreen f
  mask := s.headerMask
  present := 0
  ranking := []
  records := Eight.replicate StationRecord.blank

/-- A build request (R13, R137). A build never finds another running or no FREE bank; were it to, the request would
have no effect (notes/assumptions/30.md). -/
def State.startBuild (s : State) (number : Word) (f : Instant) : State :=
  match s.image.build, s.image.fill (s.startImage number f) with
  | none, some b => s.setImage { b with build := some ⟨0, s.tick⟩ }
  | _, _ => s

/-! ## The read of an entry (R129 to R132, R138, R139, R142) -/

/-- How an entry is shown (R129, R131, R132). -/
inductive Showing where
  | unplaced
  | stored (car : CarValues)
  | held (car : CarValues)
  | carried (car : CarValues)
  deriving DecidableEq, Repr

/-- How an entry is shown at a read. -/
def State.showing (s : State) (p : Station) : Showing :=
  match (s.entry p).car with
  | none => .unplaced
  | some c =>
    if p = s.own then .stored c.car
    else if (s.entry p).state = .lost ∨ (s.entry p).state = .retired then .held c.car
    else .carried c.car

/-- The display group after a read, SNAPPED apart. -/
def Showing.display (k : Showing) (t : Settings) (d : Display) (f : Instant) : Display :=
  match k with
  | .unplaced => d
  | .stored c => d.showStored c
  | .held c => d.showHeld c
  | .carried c => d.showCarried t c f

/-- The STALE flag. -/
def Showing.stale (k : Showing) (t : Settings) (f : Instant) : Bool :=
  match k with
  | .carried c => staleAt t c.sample f
  | .unplaced | .stored _ | .held _ => false

/-- A value of the display group as the record shows it: 0 when the entry is not placed. -/
def Showing.placed {n : Nat} (k : Showing) (v : BitVec n) : BitVec n :=
  match k with
  | .unplaced => 0
  | .stored _ | .held _ | .carried _ => v

/-- The code of an entry's state: for the own station that of the own race state (R56, R142, R176). -/
def State.stateCode (s : State) (p : Station) : Nat :=
  if p = s.own then s.race.own.code else (s.entry p).state.code

/-- The station record written at a read, d being the display group as the read leaves it, SNAPPED apart. The live rank,
which completion writes (R140), stands at 0 until then (notes/assumptions/19.md). -/
def State.stationRecord (s : State) (p : Station) (f : Instant) (d : Display) : StationRecord :=
  let e := s.entry p
  let k := s.showing p
  { state := s.stateCode p
    quality := e.quality
    own := decide (p = s.own)
    stale := k.stale s.settings f
    snapped := e.display.snapped && decide (p ≠ s.own) && decide (k ≠ .unplaced)
    held := match k with
      | .held _ => true
      | .unplaced | .stored _ | .carried _ => false
    noPosition := decide (k = .unplaced)
    finishValid := e.finish.isSome
    x := k.placed d.x
    y := k.placed d.y
    z := k.placed d.z
    h := k.placed d.h
    g := k.placed d.g
    laps := if p = s.own then BitVec.ofNat 8 s.race.lapCount else e.car.elim 0 CarRecord.laps
    finish := e.finish.getD 0
    rank := 0 }

/-- The read of one entry into the image being built. -/
def State.readEntry (s : State) (b : Build) (i : Image) (p : Station) : State :=
  let e := s.entry p
  let k := s.showing p
  let d := k.display s.settings e.display i.capture
  let t := s.setEntry p { e with display := { d with snapped := false } }
  let j := { i with records := i.records.set p (s.stationRecord p i.capture d) }
  t.setImage { t.image.write j with build := some { b with next := b.next + 1 } }

/-- BUILD_ENTRY_READ (R138, R139): the next entry in station order. -/
def execBuildEntryRead (s : State) : Host.Outcome State Fault Refusal :=
  done s <|
    match s.image.build, s.image.filling with
    | some b, some i => if h : b.next < 8 then s.readEntry b i ⟨b.next, h⟩ else s
    | _, _ => s

/-! ## Completion (R140, R143) -/

/-- The group of a station record in the live rank. -/
def StationRecord.group (r : StationRecord) : Nat :=
  if r.finishValid then 1
  else if r.own then (if 3 ≤ r.state then 2 else 5)
  else if r.state = 4 ∨ r.state = 5 ∨ r.state = 6 then 2
  else if r.state = 7 then 3
  else if r.state = 8 then 4
  else 5

/-- The key of a station record within its group, smaller first. -/
def StationRecord.key (r : StationRecord) : Int :=
  match r.group with
  | 1 => r.finish.toInt
  | 2 => -(r.g.toNat : Int)
  | 3 => -(r.g.toNat : Int)
  | _ => 0

/-- Station a ranks before station b. -/
def Image.before (i : Image) (a b : Station) : Bool :=
  let ra := i.records.get a
  let rb := i.records.get b
  decide (ra.group < rb.group) ||
    (decide (ra.group = rb.group) &&
      (decide (ra.key < rb.key) || (decide (ra.key = rb.key) && decide (a.val < b.val))))

/-- A station put at its place in a ranking. -/
def Image.insert (i : Image) (p : Station) : List Station → List Station
  | [] => [p]
  | x :: rest => if i.before p x then p :: x :: rest else x :: i.insert p rest

/-- The live rank list (R143). -/
def Image.liveRanking (i : Image) : List Station := (stations.filter (inMask i.mask)).foldr i.insert []

/-- The place of a station in a ranking, counted from 1; 0 outside it. -/
def placeIn (l : List Station) (p : Station) : Nat :=
  match l.findIdx? fun q => decide (q = p) with
  | none => 0
  | some k => k + 1

/-- The present mask: the peers read in a state other than ABSENT (R141). -/
def Image.presentMask (i : Image) : Byte :=
  maskOf fun p => !(i.records.get p).own && decide ((i.records.get p).state ≠ 0)

/-- The image as completion leaves it. -/
def Image.complete (i : Image) : Image :=
  let l := i.liveRanking
  { i with
    present := i.presentMask
    ranking := l
    records := Eight.ofFn fun p => { i.records.get p with rank := placeIn l p } }

/-- The banks after a completion: the FILLING bank READY, an older READY bank FREE (R140). -/
def ImageBuilder.completeBuild (b : ImageBuilder) : ImageBuilder :=
  { b.mapBanks (fun k =>
      match k with
      | .filling i => .ready i.complete
      | .ready _ => .free
      | k => k) with build := none }

/-- BUILD_COMPLETION (R140), after the read of station 7. -/
def execBuildCompletion (s : State) : Host.Outcome State Fault Refusal :=
  done s <|
    match s.image.build with
    | some b => if b.next < 8 then s else s.setImage s.image.completeBuild
    | none => s

/-! ## Opening an image (R144) -/

/-- The banks after OPEN_IMAGE: a READY bank OPEN, the old OPEN bank FREE. -/
def ImageBuilder.openReady (b : ImageBuilder) : ImageBuilder :=
  if b.ready.isNone then b
  else
    b.mapBanks fun k =>
      match k with
      | .ready i => .opened i
      | .opened _ => .free
      | k => k

/-- The reply of OPEN_IMAGE: the sequence of the OPEN bank, and the open mark. -/
def ImageBuilder.openReply (b : ImageBuilder) : List Word :=
  match b.opened with
  | none => [0, 0]
  | some i => [i.sequence, 1]

/-! ## The image window (R146, R149) -/

/-- A word of two bytes given as numbers. -/
def twoBytes (low high : Nat) : Word := BitVec.ofNat 16 (low + high * 256)

/-- The byte of a place of the live rank list: 0xFF after the last. -/
def Image.rankByte (i : Image) (k : Nat) : Nat :=
  match i.ranking[k]? with
  | none => 255
  | some p => p.val

/-- The flags word of a station record. -/
def StationRecord.flags (r : StationRecord) : Word :=
  BitVec.ofNat 16 ((if r.own then 1 else 0) + (if r.stale then 2 else 0) + (if r.snapped then 4 else 0) +
    (if r.held then 8 else 0) + (if r.noPosition then 16 else 0) + (if r.finishValid then 32 else 0))

/-- A station record's 14 words. -/
def StationRecord.words (r : StationRecord) (low : Bool) : List Word :=
  [twoBytes r.state r.quality, r.flags] ++ wordPair low (r.x.signExtend 32) ++ wordPair low (r.y.signExtend 32) ++
    wordPair low (r.z.signExtend 32) ++ [r.h] ++ wordPair low r.g ++ [twoBytes r.laps.toNat r.rank] ++
    wordPair low r.finish

/-- The header's 16 words. -/
def Image.headerWords (i : Image) (low : Bool) : List Word :=
  [i.sequence] ++ wordPair low i.capture ++ wordPair low i.period ++ [word i.own.code] ++ wordPair low i.raceTime ++
    [i.timeToGreen, twoBytes i.mask.toNat i.present.toNat, twoBytes (i.rankByte 0) (i.rankByte 1),
      twoBytes (i.rankByte 2) (i.rankByte 3), twoBytes (i.rankByte 4) (i.rankByte 5),
      twoBytes (i.rankByte 6) (i.rankByte 7), word i.ranking.length, 1]

/-- An image's 128 words. -/
def Image.words (i : Image) (low : Bool) : List Word :=
  i.headerWords low ++ stations.flatMap fun p => (i.records.get p).words low

/-- A word of the image window: 0 with no bank OPEN (R146). -/
def State.windowWord (s : State) (w : Nat) : Word :=
  match s.image.opened with
  | none => 0
  | some i => wordAt (i.words s.straps.lowFirst) w

end Sys2Proof.Machine
end

