-- ==== Sys2Proof/Machine/Capture.lean ====
section
/-! DEFINITION. Frame Capture: the meanings of CANDIDATE_PULSE, FRAME_INPUT_LEVEL_CONFIRMED and
FRAME_ABSENT_TIMER_EXPIRY (R4 to R15). -/

namespace Sys2Proof.Machine

/-- The held frame of the own car record is dropped when that frame is no longer in the history (R172). -/
def State.dropStaleHeld (s : State) : State :=
  let e := s.entry s.own
  match e.car with
  | none => s
  | some c =>
    if c.heldFrame.any fun n => (s.lookupFrame n).isNone then
      s.setEntry s.own { e with car := some { c with heldFrame := none } }
    else s

/-- A list's last eight entries (R9). -/
def lastEight {α : Type} (l : List α) : List α := l.drop (l.length - 8)

/-- The period after a pulse captured at c joins a history (R10). -/
def periodAfter (history : List HistoryEntry) (c : Instant) : Option Instant :=
  history.getLast?.map fun e => c - e.capture

/-- The effects of acceptance on Frame Capture in PRESENT (R7). -/
def FrameCapture.acceptPresent (f : FrameCapture) (c : Instant) : FrameCapture :=
  { f with
    counter := f.counter + 1
    history := lastEight (f.history ++ [⟨f.counter + 1, c⟩])
    period := periodAfter f.history c
    absentTimer := some (c + frameAbsentTime)
    lastCapture := some c }

/-- The effects of acceptance on Frame Capture in ABSENT (R12). -/
def FrameCapture.acceptAbsent (f : FrameCapture) (c : Instant) : FrameCapture :=
  { f with
    input := .present
    counter := f.counter + 1
    history := [⟨f.counter + 1, c⟩]
    period := none
    absentTimer := some (c + frameAbsentTime)
    lastCapture := some c }

/-- A candidate in PRESENT is accepted (R6): 4,000 µs or more after the last accepted capture tick. -/
def FrameCapture.accepts (f : FrameCapture) (c : Instant) : Bool :=
  f.lastCapture.all fun l => decide (minFrameTime ≤ interval l c)

/-- The build request of an accepted pulse (R13). -/
def State.requestBuild (s : State) (c : Instant) : State :=
  if s.race.own = .offline then s else s.startBuild s.frame.counter c

/-- A candidate pulse with its capture tick (R6, R7, R12). -/
def State.candidatePulse (s : State) (c : Instant) : State :=
  match s.frame.input with
  | .absent =>
    let t := (s.setFrame (s.frame.acceptAbsent c)).dropStaleHeld
    (t.post .frameReturned t.own t.frame.counter c).requestBuild c
  | .present =>
    if s.frame.accepts c then ((s.setFrame (s.frame.acceptPresent c)).dropStaleHeld).requestBuild c else s

/-! ## Samples and confirmed levels (R4) -/

/-- A local microsecond at the input: a sample taken while Frame Capture samples (R4, R5), and what the pin reads next. -/
def FrameCapture.sample (f : FrameCapture) (next : Bool) : FrameCapture :=
  if f.sampling then { f with newest := some f.coming, previous := f.newest, coming := next }
  else { f with coming := next }

/-- The level that the last two samples confirm anew: both read it, and it is not the confirmed one (R4). -/
def FrameCapture.toConfirm (f : FrameCapture) : Option Bool :=
  if f.sampling = true ∧ f.newest.isSome = true ∧ f.newest = f.previous ∧ f.newest ≠ f.level then f.newest else none

/-- A level confirmed: the last two samples read it (R4). -/
def FrameCapture.confirm (f : FrameCapture) (high : Bool) : FrameCapture :=
  { f with level := some high, newest := some high, previous := some high }

/-- A confirmed change from high to low is a candidate, known one microsecond after its capture tick (R4, R6). -/
def State.confirmCandidate (s : State) : State :=
  (s.setFrame (s.frame.confirm false)).candidatePulse (s.tick - 1)

/-- CANDIDATE_PULSE (R4, R6). The row says that the last two samples read low (notes/assumptions/37.md). -/
def execCandidatePulse (s : State) : Host.Outcome State Fault Refusal :=
  done s <| if s.frame.sampling = true ∧ s.frame.level = some true then s.confirmCandidate else s

/-- FRAME_INPUT_LEVEL_CONFIRMED (R4): the first confirmation, or a change from low to high, which re-arms the input. The
row says that the last two samples read the level (notes/assumptions/37.md). A low level confirmed after a high one is
the candidate of R4, under this row too (notes/assumptions/38.md). -/
def execFrameInputLevelConfirmed (high : Bool) (s : State) : Host.Outcome State Fault Refusal :=
  done s <|
    if s.frame.sampling then
      match s.frame.level, high with
      | none, _ | some false, _ | some true, true => s.setFrame (s.frame.confirm high)
      | some true, false => s.confirmCandidate
    else s

/-- Frame Capture at the expiry of the frame-absent timer (R11). -/
def FrameCapture.goAbsent (f : FrameCapture) : FrameCapture :=
  { f with input := .absent, history := [], period := none, absentTimer := none }

/-- FRAME_ABSENT_TIMER_EXPIRY (R11). -/
def execFrameAbsentTimerExpiry (s : State) : Host.Outcome State Fault Refusal :=
  done s <|
    if s.frame.absentTimer.due s.tick then
      ((s.setFrame s.frame.goAbsent).dropStaleHeld).post .frameLost s.own s.frame.counter s.frame.absentTimer.instant
    else s

end Sys2Proof.Machine
end

