-- ==== Sys2Proof/Machine/Bus.lean ====
section
/-! DEFINITION. The Bus Receiver and the Transmitter on the line: the meanings of LINE_BUSY, IDLE_GAP,
START_DELIMITER_RECOGNISED, FRAME_BROKEN, FRAME_COMPLETION, START_OPPORTUNITY, READ_BACK_WHOLE, COLLISION and
STUCK_WATCH_EXPIRY (R19 to R25, R39 to R54). -/

namespace Sys2Proof.Machine

/-! ## Line activity (R19, R39, R48) -/

/-- LINE_BUSY (R19): the first activity after IDLE. The opportunity instant is cleared (R39) and the stuck watch is
started (R48), except in DISABLED. -/
def execLineBusy (s : State) : Host.Outcome State Fault Refusal :=
  done s <|
    if s.rx.monitor = .idle then
      (s.setRx { s.rx with monitor := .busy, awaiting := true, arrival := none, remains := false }).setTx
        { s.tx with
          opportunity := none
          stuckWatch := if s.tx.phase = .disabled then s.tx.stuckWatch else s.start stuckTime }
    else s

/-- The deferral d in slots (R39). -/
def State.deferral (s : State) : Nat := (s.own - s.tx.lastSender - 1).val

/-- The slots waited from an idle gap: d, and the backoff of a current frame in BACKOFF (R39). -/
def State.waitSlots (s : State) : Nat :=
  s.deferral + if s.tx.phase = .backoff then s.tx.current.elim 0 Current.backoff else 0

/-- A discard counts as a CRC error, whatever its reason, unless the frame is the remains of an own departure
(R52). -/
def BusReceiver.discard (r : BusReceiver) : BusReceiver :=
  { r with arrival := none, crcErrors := if r.remains then r.crcErrors else satInc r.crcErrors }

/-- STUCK ends at an idle gap, with BUS_CLEAR (R48). A current frame held over it goes with no backoff. -/
def State.clearStuck (s : State) : State :=
  if s.tx.phase = .stuck then
    (s.setTx { s.tx with
      phase := .ready
      current := s.tx.current.map fun c => { c with backoff := 0 } }).post .busClear s.own s.tx.stuckCount s.tick
  else s

/-- The line monitor and the receiver at an idle gap: a frame still being assembled is broken (R20). -/
def State.endActivity (s : State) : State :=
  let r :=
    if s.rx.arrival.isSome ∧ s.tx.phase ≠ .sending ∧ s.tx.crossing = false then s.rx.discard
    else { s.rx with arrival := none }
  (s.setRx { r with monitor := .idle, awaiting := false }).setTx { s.tx with stuckWatch := none, crossing := false }

/-- IDLE_GAP (R19, R39, R48). -/
def execIdleGap (s : State) : Host.Outcome State Fault Refusal :=
  done s <|
    if s.rx.monitor = .busy then
      let t := s.endActivity.clearStuck
      t.setTx { t.tx with opportunity := some (t.tick + micros (t.waitSlots * t.straps.slot)) }
    else s

/-- START_DELIMITER_RECOGNISED (R20, R21): only as the first activity after IDLE; the arrival stamp is captured. -/
def execStartDelimiterRecognised (s : State) : Host.Outcome State Fault Refusal :=
  done s <|
    if s.rx.monitor = .busy ∧ s.rx.awaiting = true then
      s.setRx { s.rx with awaiting := false, arrival := some s.tick }
    else s

/-! ## Frames heard (R20, R24, R25) -/

/-- FRAME_BROKEN (R20): the frame being assembled is discarded with reason BROKEN. While SENDING it is the own frame,
whose break is a collision alone (R44, R52; notes/assumptions/39.md). -/
def execFrameBroken (s : State) : Host.Outcome State Fault Refusal :=
  done s <|
    if s.rx.arrival.isNone ∨ s.tx.phase = .sending then s
    else if s.tx.crossing then (s.setRx { s.rx with arrival := none }).setTx { s.tx with crossing := false }
    else s.setRx s.rx.discard

/-- A duplicate station (R49): DISABLED is latched, and the part goes OFFLINE without a WITHDRAW. -/
def State.duplicate (s : State) (f : BusFrame) (a : Instant) : State :=
  if s.tx.phase = .disabled then s
  else
    let t := (s.setTx { s.tx.emptySlot with
      phase := .disabled
      queue := []
      current := none
      inFlight := none
      callTimer := none
      stuckWatch := none }).post .duplicateStation s.own (BitVec.ofNat 16 f.payload.kindCode) a
    if s.race.own = .offline then t else t.toOffline

/-- What the kind of a frame from another station does (R54, R60, R61, R66 to R70, R84). -/
def State.hearPayload (s : State) (p : Station) (x : Payload) (a : Instant) : State :=
  match x with
  | .call entered race => s.hearCall p entered race a
  | .start q => s.hearStart p q a
  | .car c => s.hearCar p c a
  | .withdraw reason => s.retire p (reason.setWidth 16) a

/-- The Race Sequencer's part in a CAR (R105). -/
def State.hearReport (s : State) (p : Station) (x : Payload) (a : Instant) : State :=
  match x with
  | .car c => s.hearFinish p c a
  | .call _ _ | .start _ | .withdraw _ => s

/-- From one state to the next a station's entry has changed to FINISHED, LOST or RETIRED, or a finish was written
into it: the events at which all-done is tested (R109). -/
def State.testsDone (before after : State) (p : Station) : Bool :=
  (decide ((after.entry p).state ≠ (before.entry p).state) && (after.entry p).state.isDone) ||
    decide ((after.entry p).finish ≠ (before.entry p).finish)

/-- A valid frame from another station at the Peer Table and the Race Sequencer (R54). -/
def State.handOn (s : State) (f : BusFrame) (a : Instant) : State :=
  let t := ((s.receiveFields f a).joinSender f a).hearPayload f.sender f.payload a
  let t := (t.restartPresence f.sender a).hearLink f a
  let t := t.hearReport f.sender f.payload a
  if s.testsDone t f.sender then t.closeIfAllDone else t

/-- A valid frame heard, with its bus instant (R25, R49, R52). -/
def State.hear (s : State) (f : BusFrame) (a : Instant) : State :=
  let t := (s.setRx { s.rx with
    arrival := none
    goodFrames := if s.rx.remains then s.rx.goodFrames else satInc s.rx.goodFrames }).setTx
    { s.tx with lastSender := f.sender }
  if f.sender = s.own then t.duplicate f a
  else if s.race.own = .offline then t
  else t.handOn f a

/-- The bus instant of a frame from its arrival stamp (R21). -/
def State.busInstant (s : State) (arrival : Instant) : Instant := arrival - s.straps.receiveDelay

/-- FRAME_COMPLETION (R24, R25): the end delimiter of a frame being assembled. A frame still read back across a RESTART
has no effect (R50). While SENDING, a frame with the own number is this station's readback, whose row is READ_BACK_WHOLE
(R43, R49); any other is another station's, taken as at any time, so that another START can be adopted while the own one
is SENDING (R91; notes/assumptions/39.md). -/
def execFrameCompletion (bytes : List Byte) (s : State) : Host.Outcome State Fault Refusal :=
  done s <|
    match s.rx.arrival with
    | none => s
    | some arrival =>
      if s.tx.crossing then (s.setRx { s.rx with arrival := none }).setTx { s.tx with crossing := false }
      else
        match checkFrame bytes with
        | .discarded _ => s.setRx s.rx.discard
        | .valid f =>
          if s.tx.phase = .sending ∧ f.sender = s.own then s else s.hear f (s.busInstant arrival)

/-! ## Own frames (R40 to R47) -/

/-- START_OPPORTUNITY (R40): the line is open, the Transmitter may begin a frame, and the arbiter picks one; with no
work the turn passes unused. -/
def execStartOpportunity (s : State) : Host.Outcome State Fault Refusal :=
  done s <| if s.tx.phase.mayBegin = true ∧ s.lineOpen = true then s.loseCurrent.arbitrate else s

/-- The control frame that is current leaves the queue (R35, R43, R45). A START whose removal was asked has left it
already. -/
def Transmitter.dropHead (t : Transmitter) : Transmitter :=
  if t.headIsCurrent then { t with queue := t.queue.tail } else t

/-- The slot after a CAR carrying its content was read back whole (R36, R43). -/
def CarSlot.settled (c : CarSlot) : CarSlot :=
  match c.state with
  | .unsent v => if c.changed then c else { c with state := .sent v }
  | .sent _ | .empty => c

/-- The source of a frame read back whole is settled (R43, R83). -/
def State.settleSource (s : State) (x : Source) (departure : Instant) : State :=
  match x with
  | .start => (s.setTx s.tx.dropHead).setRace { s.race with proposal := .none }
  | .withdraw _ => s.setTx s.tx.dropHead
  | .car | .resend =>
    if s.tx.slot.isEmpty then s
    else
      s.setTx { s.tx with
        slot := s.tx.slot.settled
        spacingTimer := some (departure + millis s.settings.reportSpacing)
        resendTimer := some (departure + resendInterval) }
  | .call => if s.race.own.isLobby then s.setTx { s.tx with callTimer := some (departure + callCadence) } else s

/-- An own frame handed on as an own arrival (R25, R43, R56). -/
def State.hearOwn (s : State) (f : BusFrame) (a : Instant) : State :=
  if s.race.own = .offline then s
  else
    let t := s.receiveFields f a
    match f.payload with
    | .start q => t.hearStart f.sender q a
    | .call _ _ | .car _ | .withdraw _ => t

/-- A frame read back whole (R43). -/
def State.readBack (s : State) (f : InFlight) : State :=
  let t := s.settleSource f.source f.departure
  let t := t.setTx { t.tx with
    phase := .ready
    current := none
    inFlight := none
    sequence := t.tx.sequence + 1
    framesSent := satInc t.tx.framesSent
    lastSender := t.own }
  (t.setRx { t.rx with arrival := none }).hearOwn f.frame f.departure

/-- READ_BACK_WHOLE (R43). The completion of a frame that was SENDING at a RESTART has no effect (R50). -/
def execReadBackWhole (s : State) : Host.Outcome State Fault Refusal :=
  done s <|
    if s.tx.crossing then (s.setRx { s.rx with arrival := none }).setTx { s.tx with crossing := false }
    else if s.tx.phase = .sending then
      match s.tx.inFlight with
      | none => s
      | some f => s.readBack f
    else s

/-- The CAR slot and its timers at the giving up of a CAR or a resend (R45). -/
def State.giveUpCar (s : State) : State :=
  match s.tx.slot.state with
  | .empty => s
  | .sent _ => s.setTx { s.tx with resendTimer := s.start resendInterval }
  | .unsent v =>
    if s.tx.slot.changed then s
    else if s.race.own.resends then
      s.setTx { s.tx with slot := { s.tx.slot with state := .sent v }, resendTimer := s.start resendInterval }
    else s.setTx s.tx.emptySlot

/-- The CAR slot's resend timer at the giving up of a resend (R45). A slot that a POST_CAR has refilled since this
departure stays UNSENT (notes/assumptions/34.md). -/
def State.giveUpResend (s : State) : State :=
  if s.tx.slot.isEmpty then s else s.setTx { s.tx with resendTimer := s.start resendInterval }

/-- The source of a frame given up (R45, R83). -/
def State.giveUpSource (s : State) (x : Source) : State :=
  match x with
  | .start => (s.setTx s.tx.dropHead).setRace { s.race with proposal := .none }
  | .withdraw _ => s.setTx s.tx.dropHead
  | .car => s.giveUpCar
  | .resend => s.giveUpResend
  | .call => if s.race.own.isLobby then s.setTx { s.tx with callTimer := s.start callCadence } else s

/-- The current frame given up at its eighth collision (R45). -/
def State.giveUp (s : State) (x : Source) : State :=
  let t := s.giveUpSource x
  (t.setTx { t.tx with current := none, phase := .ready }).dropFrame x.kindCode

/-- The backoff drawn at a collision that brings the count to c: 0 … 2^min(c,4) - 1 slots (R44). The generator's
sequence is a free value (notes/assumptions/3.md). -/
def Transmitter.drawBackoff (t : Transmitter) (c : Nat) : Nat :=
  (Config.backoffDraw t.backoffSeed t.backoffPlace).toNat % 2 ^ min c 4

/-- A collision of the frame in flight (R44, R45, R46). A START whose removal was asked is lost (R35). -/
def State.collide (s : State) : State :=
  let t := (s.setTx { s.tx with
    phase := .ready
    current := none
    inFlight := none
    collisions := satInc s.tx.collisions
    backoffPlace := s.tx.backoffPlace + 1 }).setRx { s.rx with remains := true }
  match s.tx.current with
  | none => t
  | some c =>
    if 7 ≤ c.collisions then (t.setTx { t.tx with current := some c }).giveUp c.source
    else if s.sourceExists c.source then
      t.setTx { t.tx with
        phase := .backoff
        current := some ⟨c.source, c.collisions + 1, s.tx.drawBackoff (c.collisions + 1)⟩ }
    else t

/-- COLLISION (R44). A frame still read back across a RESTART is counted, and nothing more (R50): it draws no backoff, and
the generator is not stepped (notes/assumptions/22.md). -/
def execCollision (s : State) : Host.Outcome State Fault Refusal :=
  done s <|
    if s.tx.crossing then
      (s.setTx { s.tx with collisions := satInc s.tx.collisions, crossing := false }).setRx
        { s.rx with remains := true }
    else if s.tx.phase = .sending then s.collide
    else s

/-- STUCK_WATCH_EXPIRY (R48). -/
def execStuckWatchExpiry (s : State) : Host.Outcome State Fault Refusal :=
  done s <|
    if s.tx.stuckWatch.due s.tick then
      if s.tx.phase = .disabled then s.setTx { s.tx with stuckWatch := none }
      else
        (s.setTx { s.tx with
          phase := .stuck
          stuckWatch := none
          stuckSince := s.tick
          stuckCount := 0
          callTimer := none
          inFlight := none }).post .busStuck s.own (word s.tx.queue.length) s.tx.stuckWatch.instant
    else s

end Sys2Proof.Machine
end

