-- ==== Sys2Proof/Machine/Flags.lean ====
section
/-! DEFINITION. The words made of flags: the two halves of the status word, the marks of READ_PEER, and the levels of
the output pins (R151, R158 to R160, R164, R176). -/

namespace Sys2Proof.Machine

/-- A flag as a bit of a word. -/
def flagBit (b : Bool) (position : Nat) : Nat := if b then 2 ^ position else 0

/-! ## The status word (R164) -/

/-- The code of a result (R168). -/
def Result.code : Result → Nat
  | .ok => 0
  | .wrongState => 1
  | .badArgument => 2
  | .staleFrame => 3
  | .noNewer => 4
  | .early => 5
  | .tooSoon => 6
  | .disabled => 7
  | .clamped => 8

/-- The code of the command-unit state (R164). -/
def UnitState.code : UnitState → Nat
  | .loading => 0
  | .idle => 1
  | .busy _ _ _ => 2

/-- The code of the Transmitter state (R164). -/
def TxState.code : TxState → Nat
  | .idle => 0
  | .defer => 1
  | .sending => 2
  | .backoff => 3
  | .stuck => 4
  | .disabled => 5

/-- The command half of the status word. -/
def CommandUnit.statusWord (c : CommandUnit) : Word :=
  BitVec.ofNat 16 (c.unit.code + c.lastResult.code * 4 + c.replyLength * 64 + flagBit c.lost 11)

/-- The part half of the status word. -/
def State.partWord (s : State) : Word :=
  BitVec.ofNat 16 (flagBit s.loader.defaulted 0 + flagBit (decide (s.frame.input = .present)) 1 + s.race.own.code * 4 +
    flagBit s.events.enable 5 + s.txState.code * 64)

/-! ## READ_PEER's marks (R176) -/

/-- The lobby info an entry holds; for the own station its own signature and laps (R56). -/
def State.lobbyOf (s : State) (p : Station) : Option LobbyInfo :=
  if p = s.own then s.race.entry else (s.entry p).lobby

/-- The marks word of an entry. -/
def State.marks (s : State) (p : Station) : Word :=
  let e := s.entry p
  BitVec.ofNat 16 (flagBit (s.lobbyOf p).isSome 0 + flagBit e.lastHeard.isSome 1 + flagBit e.car.isSome 2 +
    flagBit e.finish.isSome 3 + flagBit e.raceFlag 4 + flagBit e.dnf 5 + flagBit e.resend 6 +
    flagBit (decide (p = s.own)) 7)

/-! ## Output pins (R150, R151, R158 to R160) -/

/-- The fast blink level (R151). -/
def LampUnit.fastBlink (l : LampUnit) : Bool := decide (l.blinkPhase.val % 2 = 0)

/-- The slow blink level (R151). -/
def LampUnit.slowBlink (l : LampUnit) : Bool := decide (l.blinkPhase.val < 4)

/-- The Transmitter is STUCK or DISABLED (R158, R159). -/
def TxPhase.isFault : TxPhase → Bool
  | .stuck | .disabled => true
  | .ready | .sending | .backoff => false

/-- A fail-safe value as a level (R158). -/
def LampUnit.failSafeLevel (l : LampUnit) (v : FailSafe) : Bool :=
  match v with
  | .off => false
  | .on => true
  | .blink => l.fastBlink

/-- The level of a LAMP pin (R158). -/
def State.lampLevel (s : State) (p : Pin) : Bool :=
  if s.tx.phase.isFault then s.lamp.failSafeLevel (s.settings.failSafe.get p)
  else (s.lamp.pattern s.settings).getLsbD p.val

/-- The level of a LINK pin (R159). -/
def State.linkLevel (s : State) : Bool :=
  if s.tx.phase.isFault then s.lamp.fastBlink
  else if s.race.own = .offline then false
  else if s.presentPeers.isEmpty then s.lamp.slowBlink
  else true

/-- The level a pin drives: on is true. All pins are off until load completion (R150). -/
def State.pinLevel (s : State) (p : Pin) : Bool :=
  if s.cmd.unit = .loading then false
  else
    match s.settings.functions.get p with
    | .lamp => s.lampLevel p
    | .link => s.linkLevel
    | .plain => s.lamp.plain.get p

/-- The levels of the four pins, bit n for Pn (R160). -/
def State.pinWord (s : State) : Word :=
  BitVec.ofNat 16 (flagBit (s.pinLevel 0) 0 + flagBit (s.pinLevel 1) 1 + flagBit (s.pinLevel 2) 2 +
    flagBit (s.pinLevel 3) 3)

end Sys2Proof.Machine
end

