-- ==== Sys2Proof/Machine/Port.lean ====
section
/-! DEFINITION. The game port: what a read of each of its 512 words returns (R146, R162, R164, R179, R183). A read never
changes the part, so it is a function of the state and no command. -/

namespace Sys2Proof.Machine

/-- The four words of an event record (R179). -/
def EventRecord.words (r : EventRecord) (low : Bool) : List Word :=
  [twoBytes r.kind.code r.station.val, r.detail] ++ wordPair low r.stamp

/-- A word of the event head: 0 when the queue is empty, which is kind NONE (R179). -/
def State.headWord (s : State) (i : Nat) : Word :=
  match s.events.records with
  | [] => 0
  | r :: _ => wordAt (r.words s.straps.lowFirst) i

/-- What a read of a word address returns (R162). An address the map does not name reads 0. -/
def State.portRead (s : State) (address : BitVec 9) : Word :=
  let a := address.toNat
  if a < 0x010 then wordAt s.cmd.arguments a
  else if a < 0x020 then wordAt s.cmd.reply (a - 0x010)
  else if a = 0x020 then s.cmd.statusWord
  else if a = 0x021 then s.partWord
  else if a = 0x022 then word (flagBit s.events.enable 0)
  else if a = 0x023 then word s.events.records.length
  else if a < 0x028 then s.headWord (a - 0x024)
  else if a = 0x029 then s.straps.word
  else if 0x100 ≤ a ∧ a < 0x180 then s.windowWord (a - 0x100)
  else 0

end Sys2Proof.Machine
end

