-- ==== Sys2Proof/Machine/Timers.lean ====
section
/-! DEFINITION. The meanings of the timer expiries that Capture.lean and Bus.lean do not hold: those of the Transmitter,
the Peer Table, the Race Sequencer and the Lamp Unit. A timer stops at its expiry (R3); a timer that is stopped, or
whose instant is not reached, has none, and the command then changes nothing (notes/assumptions/4.md). -/

namespace Sys2Proof.Machine

/-! ## Transmitter (R37, R38) -/

/-- CALL_CADENCE_TIMER_EXPIRY (R37): a CALL is due in ATTRACT and ENTERED. -/
def execCallCadenceTimerExpiry (s : State) : Host.Outcome State Fault Refusal :=
  done s <| if s.tx.callTimer.due s.tick then s.setTx { s.tx with callTimer := none } else s

/-- REPORT_SPACING_TIMER_EXPIRY (R38): an UNSENT slot is eligible. -/
def execReportSpacingTimerExpiry (s : State) : Host.Outcome State Fault Refusal :=
  done s <| if s.tx.spacingTimer.due s.tick then s.setTx { s.tx with spacingTimer := none } else s

/-- RESEND_TIMER_EXPIRY (R38): a SENT slot is eligible for a resend in FINISHED and RESULTS. -/
def execResendTimerExpiry (s : State) : Host.Outcome State Fault Refusal :=
  done s <| if s.tx.resendTimer.due s.tick then s.setTx { s.tx with resendTimer := none } else s

/-! ## Peer Table (R62, R68, R73) -/

/-- PRESENCE_TIMER_EXPIRY (R62). -/
def execPresenceTimerExpiry (p : Station) (s : State) : Host.Outcome State Fault Refusal :=
  done s <|
    let e := s.entry p
    if e.presenceTimer.due s.tick then
      match e.state with
      | .present | .entered | .elsewhere =>
        (s.setEntry p e.toAbsent).post .peerGone p (word e.state.code) e.presenceTimer.instant
      | .absent | .grid | .racing | .finished | .lost | .retired => s.setEntry p { e with presenceTimer := none }
    else s

/-- LOST_TIMER_EXPIRY (R68), with the all-done test it can meet (R109). -/
def execLostTimerExpiry (p : Station) (s : State) : Host.Outcome State Fault Refusal :=
  done s <|
    let e := s.entry p
    if e.lostTimer.due s.tick then
      match e.state with
      | .grid | .racing | .finished =>
        ((s.setEntry p { e with state := .lost, lostTimer := none }).post .peerLost p
          ((e.car.elim 0 CarRecord.laps).setWidth 16) e.lostTimer.instant).closeIfAllDone
      | .absent | .present | .entered | .elsewhere | .lost | .retired => s.setEntry p { e with lostTimer := none }
    else s

/-- SILENCE_TIMER_EXPIRY (R73). -/
def execSilenceTimerExpiry (s : State) : Host.Outcome State Fault Refusal :=
  done s <|
    if s.peers.silenceTimer.due s.tick then
      if s.peers.heard then
        (s.setPeers { s.peers with silenceTimer := none, silent := true }).post .linkSilent s.own
          (word s.presentPeers.length) s.peers.silenceTimer.instant
      else s.setPeers { s.peers with silenceTimer := none }
    else s

/-! ## Race Sequencer (R81, R90, R94, R107, R108, R115) -/

/-- The lobby timer's expiry in ENTERED, the timer restarted (R81). R81 says that no event is posted where a START is
queued; a frame that this pushes out of a full queue is posted as R35 says (notes/assumptions/36.md). -/
def State.lobbyExpiry (s : State) (instant : Instant) : State :=
  let t := s.setRace { s.race with lobbyTimer := s.start (seconds s.settings.lobbyWindow) }
  if s.race.proposal = .pending then t
  else if s.fieldShort then t.post .lobbyExtended t.own (word s.field.length) instant
  else
    let t := t.placeControl .start
    t.setRace { t.race with proposal := .pending }

/-- LOBBY_TIMER_EXPIRY (R81). -/
def execLobbyTimerExpiry (s : State) : Host.Outcome State Fault Refusal :=
  done s <|
    if s.race.lobbyTimer.due s.tick then
      if s.race.own = .entered then s.lobbyExpiry s.race.lobbyTimer.instant
      else s.setRace { s.race with lobbyTimer := none }
    else s

/-- LOCK_TIMER_EXPIRY (R90): the record's locked mark is set. -/
def execLockTimerExpiry (s : State) : Host.Outcome State Fault Refusal :=
  done s <|
    if s.race.lockTimer.due s.tick then
      s.setRace { s.race with
        lockTimer := none
        record := s.race.record.map fun r => { r with locked := true } }
    else s

/-- A peer entry at green (R65). -/
def Entry.atGreen (e : Entry) (timer : Timer) : Entry :=
  match e.state with
  | .grid | .racing => { e with state := .racing, lostTimer := timer }
  | .absent | .present | .entered | .elsewhere | .finished | .lost | .retired => e

/-- Green (R94). -/
def State.goGreen (s : State) (r : RaceRecord) : State :=
  let t := (s.setOwn .racing).mapEntries fun p e =>
    if p = s.own then e else e.atGreen (s.start (millis s.settings.lostTimeout))
  let t := t.setRace { t.race with
    greenTimer := none
    lapCount := 0
    lapList := []
    limitTimer := some (r.green + seconds s.settings.raceLimit + settleMargin) }
  t.post .green t.own (r.mask.setWidth 16) r.green

/-- GREEN_TIMER_EXPIRY (R94). -/
def execGreenTimerExpiry (s : State) : Host.Outcome State Fault Refusal :=
  done s <|
    if s.race.greenTimer.due s.tick then
      match s.race.own, s.race.record with
      | .countdown, some r => s.goGreen r
      | _, _ => s.setRace { s.race with greenTimer := none }
    else s

/-- GRACE_CLOSE_TIMER_EXPIRY (R107, R110): the grace end governs. -/
def execGraceCloseTimerExpiry (s : State) : Host.Outcome State Fault Refusal :=
  done s <|
    if s.race.graceTimer.due s.tick then
      if s.race.own.isRunning then s.close (some s.graceEnd) false
      else s.setRace { s.race with graceTimer := none }
    else s

/-- LIMIT_CLOSE_TIMER_EXPIRY (R108, R110): the limit end governs, and RACE_EXPIRED is posted. -/
def execLimitCloseTimerExpiry (s : State) : Host.Outcome State Fault Refusal :=
  done s <|
    if s.race.limitTimer.due s.tick then
      if s.race.own.isRunning then s.close (some s.limitEnd) true
      else s.setRace { s.race with limitTimer := none }
    else s

/-- RESULTS_CEILING_TIMER_EXPIRY (R115). -/
def execResultsCeilingTimerExpiry (s : State) : Host.Outcome State Fault Refusal :=
  done s <|
    if s.race.ceilingTimer.due s.tick then
      s.setRace { s.race with
        ceilingTimer := none
        ceilingMark := s.race.ceilingMark || decide (s.race.own = .results) }
    else s

/-! ## Lamp Unit (R151, R154, R155) -/

/-- BLINK_TIMER_EXPIRY (R151): the timer is started again from its expiry instant. -/
def execBlinkTimerExpiry (s : State) : Host.Outcome State Fault Refusal :=
  done s <|
    if s.lamp.blinkTimer.due s.tick then
      s.setLamp { s.lamp with
        blinkPhase := s.lamp.blinkPhase + 1
        blinkTimer := some (s.lamp.blinkTimer.instant + blinkHalf) }
    else s

/-- LAMP_STEP_TIMER_EXPIRY (R154). -/
def execLampStepTimerExpiry (i : Pin) (s : State) : Host.Outcome State Fault Refusal :=
  done s <| if (s.lamp.stepTimers.get i).due s.tick then s.setLamp (s.lamp.atStep s.settings i s.tick) else s

/-- LAMP_GREEN_TIMER_EXPIRY (R155). -/
def execLampGreenTimerExpiry (s : State) : Host.Outcome State Fault Refusal :=
  done s <| if s.lamp.greenTimer.due s.tick then s.setLamp (s.lamp.atGreen s.settings s.tick) else s

/-- HOLD_TIMER_EXPIRY (R155): the program is DARK and the schedule dropped. -/
def execHoldTimerExpiry (s : State) : Host.Outcome State Fault Refusal :=
  done s <| if s.lamp.holdTimer.due s.tick then s.setLamp s.lamp.drop else s

end Sys2Proof.Machine
end

