-- ==== Sys2Proof/Machine/Commands.lean ====
section
/-! DEFINITION. The game port's writes: the Command Unit's take and completion, the sixteen commands, and the meanings of
UNKNOWN_COMMAND, COMMAND_LOST, COMMAND_COMPLETION, EVENT_RELEASE, INTERRUPT_ENABLE_WRITE and PORT_WRITE (R78, R79, R95 to
R104, R116, R117, R144, R160, R162 to R184, R191). -/

namespace Sys2Proof.Machine

/-! ## Take and completion (R165 to R168) -/

/-- What a command's work at its take event comes to: the state, the result and the reply. -/
structure Answer where
  state : State
  result : Result
  reply : List Word
  deriving DecidableEq, Repr

/-- A refusal: no effect and no reply (R168). -/
def State.refuse (s : State) (r : Result) : Answer := ⟨s, r, []⟩

/-- A word of the argument copy (R165). -/
def State.arg (s : State) (i : Nat) : Word := wordAt s.cmd.copied i

/-- The Command Unit at a take: the arguments copied, COMMAND_LOST cleared (R166). -/
def CommandUnit.beginTake (c : CommandUnit) : CommandUnit := { c with copied := c.arguments, lost := false }

/-- A code written to the command word: taken in IDLE, with the command's work done at this event and the reply
formed; discarded otherwise, with COMMAND_LOST set (R166, R167). -/
def State.take (s : State) (work : State → Answer) : State :=
  match s.cmd.unit with
  | .idle =>
    let a := work (s.setCmd s.cmd.beginTake)
    a.state.setCmd { a.state.cmd with unit := .busy a.result a.reply s.tick }
  | .loading => s.setCmd { s.cmd with lost := true }
  | .busy _ _ _ => s.setCmd { s.cmd with lost := true }

/-- A reply padded with zeros to the 16 words of the reply buffer (R165). -/
def replyBuffer (reply : List Word) : List Word := reply ++ List.replicate (16 - reply.length) 0

/-- COMMAND_COMPLETION (R165, R166). -/
def execCommandCompletion (s : State) : Host.Outcome State Fault Refusal :=
  done s <|
    match s.cmd.unit with
    | .busy r reply _ =>
      s.setCmd { s.cmd with
        unit := .idle
        lastResult := r
        replyLength := reply.length
        reply := replyBuffer reply }
    | .loading => s
    | .idle => s

/-! ## Settings (R178, R191) -/

/-- The SET_OUTPUT levels after the pin functions change: only a pin that stays PLAIN keeps its level (R150). -/
def keptLevels (old new : Four PinFunction) (levels : Four Bool) : Four Bool :=
  Four.ofFn fun p => decide (old.get p = .plain) && decide (new.get p = .plain) && levels.get p

/-- The settings put in force by CONFIGURE, with the reply. -/
def State.putSettings (s : State) (t : Settings) (limited : Word) : Answer :=
  let u := (s.setLoader { s.loader with settings := t }).setLamp
    { s.lamp with plain := keptLevels s.settings.functions t.functions s.lamp.plain }
  ⟨u, if limited = 0 then .ok else .clamped, [limited]⟩

/-- CONFIGURE at its take (R191). -/
def State.configure (s : State) : Answer :=
  if s.race.own ≠ .offline then s.refuse .wrongState
  else if s.arg 13 = 0 then
    s.putSettings (s.settings.takeGroupZero s.straps.lowFirst s.cmd.copied)
      (limitedWord (groupZeroLimited s.cmd.copied))
  else if s.arg 13 = 1 then
    s.putSettings (s.settings.takeGroupOne s.cmd.copied) (limitedWord (groupOneLimited s.cmd.copied))
  else s.refuse .badArgument

/-- READ_CONFIG at its take (R178). -/
def State.readConfig (s : State) : Answer :=
  if s.arg 0 = 0 then ⟨s, .ok, s.settings.groupZero s.straps⟩
  else if s.arg 0 = 1 then ⟨s, .ok, s.settings.groupOne s.loader.defaulted⟩
  else s.refuse .badArgument

/-- CONFIGURE. -/
def execConfigure (s : State) : Host.Outcome State Fault Refusal := done s (s.take State.configure)

/-- READ_CONFIG. -/
def execReadConfig (s : State) : Host.Outcome State Fault Refusal := done s (s.take State.readConfig)

/-! ## Going online and offline, RESTART (R96, R97, R173 to R175) -/

/-- GO_ONLINE at its take (R173). -/
def State.goOnline (s : State) : Answer :=
  if s.race.own ≠ .offline then s.refuse .wrongState
  else if s.tx.phase = .disabled then s.refuse .disabled
  else
    let t := s.setOwn .attract
    ⟨t.setPeers { t.peers with silenceTimer := t.start silenceTime, heard := false, silent := false }, .ok, []⟩

/-- GO_OFFLINE at its take (R96, R174). The WITHDRAW of a race state may push a control frame out of a full queue, with
TX_DROPPED (R35), though R174 says that no event is posted (notes/assumptions/36.md). -/
def State.goOffline (s : State) : Answer :=
  if s.race.own = .offline then ⟨s, .ok, []⟩
  else if s.race.own.isRace then ⟨(s.placeControl (.withdraw 2)).toOffline, .ok, []⟩
  else ⟨s.toOffline, .ok, []⟩

/-- The Transmitter after RESTART (R50). -/
def State.restartTx (s : State) : Transmitter :=
  { Transmitter.initial s.own with
    queue := if s.race.own.isRace then [.withdraw 3] else []
    stuckWatch := if s.rx.monitor = .busy then s.start stuckTime else none
    crossing := s.tx.crossing || decide (s.tx.phase = .sending)
    backoffSeed := s.tx.backoffSeed
    backoffPlace := s.tx.backoffPlace }

/-- RESTART at its take (R97, R175). -/
def State.restart (s : State) : Answer :=
  let t := ((s.setTx s.restartTx).setRx { s.rx with goodFrames := 0, crcErrors := 0 }).setPeers PeerTable.initial
  let t := (t.setRace Sequencer.initial).setImage ImageBuilder.initial
  let t := t.setLamp { LampUnit.initial with blinkTimer := s.lamp.blinkTimer, blinkPhase := s.lamp.blinkPhase }
  ⟨t.setEvents { s.events with records := [] }, .ok, []⟩

/-- GO_ONLINE. -/
def execGoOnline (s : State) : Host.Outcome State Fault Refusal := done s (s.take State.goOnline)

/-- GO_OFFLINE. -/
def execGoOffline (s : State) : Host.Outcome State Fault Refusal := done s (s.take State.goOffline)

/-- RESTART. -/
def execRestart (s : State) : Host.Outcome State Fault Refusal := done s (s.take State.restart)

/-! ## The lobby (R78, R79) -/

/-- An accepted ENTER (R78). -/
def State.enterLobby (s : State) (race : LobbyInfo) : State :=
  let t := s.setOwn .entered
  t.setRace { t.race with
    entry := some race
    lobbyTimer := t.start (seconds t.settings.lobbyWindow)
    proposal := .none }

/-- ENTER at its take (R78). -/
def State.enter (s : State) : Answer :=
  if s.race.own ≠ .attract then s.refuse .wrongState
  else if s.arg 1 = 0 then s.refuse .badArgument
  else if 100 ≤ (s.arg 1).toNat then ⟨s.enterLobby ⟨s.arg 0, 99⟩, .clamped, []⟩
  else ⟨s.enterLobby ⟨s.arg 0, (s.arg 1).setWidth 8⟩, .ok, []⟩

/-- CANCEL_ENTRY at its take (R79). -/
def State.cancelEntry (s : State) : Answer :=
  if s.race.own ≠ .entered then s.refuse .wrongState
  else
    let t := s.removeProposal.setOwn .attract
    ⟨t.setRace { t.race with entry := none, lobbyTimer := none }, .ok, []⟩

/-- ENTER. -/
def execEnter (s : State) : Host.Outcome State Fault Refusal := done s (s.take State.enter)

/-- CANCEL_ENTRY. -/
def execCancelEntry (s : State) : Host.Outcome State Fault Refusal := done s (s.take State.cancelEntry)

/-! ## POST_CAR (R170 to R172) -/

/-- An argument pair as a signed number. -/
def State.argPair (s : State) (i : Nat) : BitVec 32 := pairAt s.straps.lowFirst s.cmd.copied i

/-- The car of the arguments, for its capture tick and surface class (R170, R172). -/
def State.postedCar (s : State) (capture : Instant) (surface : Surface) : CarValues where
  sample := capture
  x := saturate24 (s.argPair 1).toInt
  y := saturate24 (s.argPair 3).toInt
  z := saturate24 (s.argPair 5).toInt
  vx := takeRate (s.arg 7)
  vy := takeRate (s.arg 8)
  vz := takeRate (s.arg 9)
  h := s.arg 10
  w := takeRate (s.arg 11)
  g := s.argPair 12
  q := takeRate (s.arg 14)
  surface := surface

/-- The reply of POST_CAR: bits 0, 1 and 2 for X, Y and Z limited (R172). -/
def State.postReply (s : State) : Word :=
  BitVec.ofNat 16 (flagBit (outside24 (s.argPair 1).toInt) 0 + flagBit (outside24 (s.argPair 3).toInt) 1 +
    flagBit (outside24 (s.argPair 5).toInt) 2)

/-- POST_CAR is taken in COUNTDOWN, RACING and FINISHED (R171). -/
def OwnState.posts : OwnState → Bool
  | .countdown | .racing | .finished => true
  | .offline | .attract | .entered | .results => false

/-- The named frame is earlier than the held frame (R171, test 4). -/
def State.beforeHeld (s : State) (n : Word) : Bool :=
  ((s.entry s.own).car.bind CarRecord.heldFrame).any fun held => frameEarlier n held

/-- A posted car written into the own entry and the CAR slot (R36, R172). -/
def State.acceptCar (s : State) (car : CarValues) (n : Word) : State :=
  let t := s.setEntry s.own { s.entry s.own with
    car := some ⟨car, BitVec.ofNat 8 s.race.lapCount, s.ownFinish.isSome, some n⟩ }
  t.setTx (t.tx.postCar car)

/-- POST_CAR at its take (R171, R172). -/
def State.takePostCar (s : State) : Answer :=
  if s.race.own.posts = false then s.refuse .wrongState
  else
    match surfaceOf (s.arg 15).toNat with
    | none => s.refuse .badArgument
    | some surface =>
      match s.lookupFrame (s.arg 0) with
      | none => s.refuse .staleFrame
      | some capture =>
        if s.beforeHeld (s.arg 0) then s.refuse .staleFrame
        else
          ⟨s.acceptCar (s.postedCar capture surface) (s.arg 0),
            if s.postReply = 0 then .ok else .clamped, [s.postReply]⟩

/-- POST_CAR. -/
def execPostCar (s : State) : Host.Outcome State Fault Refusal := done s (s.take State.takePostCar)

/-! ## LAP and the own finish (R99 to R103) -/

/-- The frame length P (R100). -/
def State.frameLength (s : State) (n : Word) (capture : Instant) : Nat :=
  match s.lookupFrame (n + 1) with
  | some next => (next - capture).toNat
  | none => s.frame.period.elim 0 BitVec.toNat

/-- The crossing stamp T (R100). -/
def State.crossingStamp (s : State) (n : Word) (f : Nat) (capture : Instant) : Instant :=
  let t := capture + micros (f * s.frameLength n capture / 256)
  if 0 < interval s.tick t then s.tick else t

/-- A crossing comes less than 1,000,000 µs after the previous accepted one (R101). -/
def State.tooSoon (s : State) (crossing : BitVec 32) : Bool :=
  s.race.lapList.getLast?.any fun last => decide ((crossing - last).toInt < 1000000)

/-- The detail of OWN_LAP: the lap time in units of 10,000 µs, floored and saturating (R102). -/
def lapDetail (time : BitVec 32) : Word := word (min 65535 (time.toNat / 10000))

/-- The own finish (R103). -/
def State.ownFinishes (s : State) (crossing : BitVec 32) (stamp : Instant) : State :=
  let t := (s.writeFinish s.own crossing).setOwn .finished
  let t := t.setTx { t.tx with slot := { t.tx.slot with finishMark := true } }
  let t := t.post .ownFinished t.own (word t.race.lapCount) stamp
  (t.closeIfGraceReached (s.isEarliest crossing)).closeIfAllDone

/-- An accepted LAP (R102). -/
def State.acceptLap (s : State) (crossing : BitVec 32) (stamp : Instant) : State :=
  let time := crossing - s.race.lapList.getLast?.getD 0
  let t := s.setRace { s.race with
    lapCount := s.race.lapCount + 1
    lapList := s.race.lapList ++ [crossing] }
  let t := t.post .ownLap t.own (lapDetail time) stamp
  if t.race.record.any fun r => decide (t.race.lapCount = r.race.laps.toNat) then t.ownFinishes crossing stamp else t

/-- LAP at its take (R99). -/
def State.lap (s : State) : Answer :=
  if s.race.own ≠ .racing then s.refuse .wrongState
  else if 255 < (s.arg 1).toNat then s.refuse .badArgument
  else
    match s.lookupFrame (s.arg 0) with
    | none => s.refuse .staleFrame
    | some capture =>
      let stamp := s.crossingStamp (s.arg 0) (s.arg 1).toNat capture
      let crossing := stamp - s.origin
      if crossing.toInt ≤ 0 then s.refuse .early
      else if s.tooSoon crossing then s.refuse .tooSoon
      else ⟨s.acceptLap crossing stamp, .ok, []⟩

/-- LAP. -/
def execLap (s : State) : Host.Outcome State Fault Refusal := done s (s.take State.lap)

/-! ## Leaving a race (R95, R117) -/

/-- This station leaves its race for ATTRACT, its signature and laps discarded. -/
def State.leaveForAttract (s : State) : State :=
  let t := (s.leaveRace s.tick).setOwn .attract
  t.setRace { t.race with entry := none, lobbyTimer := none, proposal := .none }

/-- QUIT at its take (R95). The TX_DROPPED of a full control queue (R35) is posted before the PEER_GONE records (R72), an
order that R179 leaves open (notes/assumptions/16.md). -/
def State.quit (s : State) : Answer :=
  if s.race.own.posts = false then s.refuse .wrongState
  else ⟨(s.placeControl (.withdraw 1)).leaveForAttract, .ok, []⟩

/-- ACK_RESULTS at its take (R117). -/
def State.ackResults (s : State) : Answer :=
  if s.race.own ≠ .results then s.refuse .wrongState else ⟨s.leaveForAttract, .ok, []⟩

/-- QUIT. -/
def execQuit (s : State) : Host.Outcome State Fault Refusal := done s (s.take State.quit)

/-- ACK_RESULTS. -/
def execAckResults (s : State) : Host.Outcome State Fault Refusal := done s (s.take State.ackResults)

/-! ## Commands that read (R116, R144, R176, R177) -/

/-- OPEN_IMAGE at its take (R144). -/
def State.openImage (s : State) : Answer :=
  let b := s.image.openReady
  ⟨s.setImage b, if s.image.ready.isNone then .noNewer else .ok, b.openReply⟩

/-- OPEN_IMAGE. -/
def execOpenImage (s : State) : Host.Outcome State Fault Refusal := done s (s.take State.openImage)

/-- The presence word of a results record (R116). R116 names the three fields and the three lowest bits and pairs none: bit
0 for the first named, and so on, is the model's (notes/assumptions/41.md). -/
def ResultRecord.presence (r : ResultRecord) : Word :=
  BitVec.ofNat 16 (flagBit r.finish.isSome 0 + flagBit r.progress.isSome 1 + flagBit r.bestLap.isSome 2)

/-- The reply of READ_RESULTS (R116, R169). -/
def resultsReply (low final : Bool) (l : List ResultRecord) (rank : Nat) (r : ResultRecord) : List Word :=
  [word l.length, if final then 1 else 0, word rank, word r.station.val, word r.category.code, r.presence] ++
    wordPair low (r.finish.getD 0) ++ wordPair low (r.progress.getD 0) ++ [r.laps.setWidth 16] ++
    wordPair low (r.bestLap.getD 0)

/-- The list READ_RESULTS reads: the results list in RESULTS, a provisional one in FINISHED (R116). -/
def State.resultsShown (s : State) : List ResultRecord :=
  if s.race.own = .results then s.race.results.getD [] else s.resultsFor none

/-- READ_RESULTS at its take (R116). -/
def State.readResults (s : State) : Answer :=
  if s.race.own ≠ .finished ∧ s.race.own ≠ .results then s.refuse .wrongState
  else if s.arg 0 = 0 then s.refuse .badArgument
  else
    match s.resultsShown[(s.arg 0).toNat - 1]? with
    | none => s.refuse .badArgument
    | some r =>
      ⟨s, .ok, resultsReply s.straps.lowFirst (decide (s.race.own = .results)) s.resultsShown (s.arg 0).toNat r⟩

/-- READ_RESULTS. -/
def execReadResults (s : State) : Host.Outcome State Fault Refusal := done s (s.take State.readResults)

/-- The seven words of READ_PEER (R176). -/
def State.peerWords (s : State) (p : Station) : List Word :=
  let e := s.entry p
  [word (s.stateCode p), s.marks p, (s.lobbyOf p).elim 0 LobbyInfo.signature,
    (s.lobbyOf p).elim 0 (fun l => l.laps.setWidth 16), word e.quality] ++
    wordPair s.straps.lowFirst (e.lastHeard.getD 0)

/-- READ_PEER at its take (R176). -/
def State.readPeer (s : State) : Answer :=
  if h : (s.arg 0).toNat < 8 then ⟨s, .ok, s.peerWords ⟨(s.arg 0).toNat, h⟩⟩ else s.refuse .badArgument

/-- READ_PEER. -/
def execReadPeer (s : State) : Host.Outcome State Fault Refusal := done s (s.take State.readPeer)

/-- READ_HEALTH at its take (R177). -/
def State.readHealth (s : State) : Answer :=
  ⟨(s.setRx { s.rx with goodFrames := 0, crcErrors := 0 }).setTx
      { s.tx with collisions := 0, drops := 0, framesSent := 0 },
    .ok, [s.rx.goodFrames, s.rx.crcErrors, s.tx.collisions, s.tx.drops, s.tx.framesSent]⟩

/-- READ_HEALTH. -/
def execReadHealth (s : State) : Host.Outcome State Fault Refusal := done s (s.take State.readHealth)

/-! ## SET_OUTPUT (R160) -/

/-- A refused SET_OUTPUT returns the pin levels too. -/
def State.refuseOutput (s : State) (r : Result) : Answer := ⟨s, r, [s.pinWord]⟩

/-- A PLAIN pin driven to a level. -/
def State.driveOutput (s : State) (p : Pin) (level : Bool) : Answer :=
  let t := s.setLamp { s.lamp with plain := s.lamp.plain.set p level }
  ⟨t, .ok, [t.pinWord]⟩

/-- SET_OUTPUT at its take (R160). -/
def State.setOutput (s : State) : Answer :=
  if h : (s.arg 0).toNat < 4 then
    if s.settings.functions.get ⟨(s.arg 0).toNat, h⟩ ≠ .plain then s.refuseOutput .wrongState
    else if s.arg 1 = 0 then s.driveOutput ⟨(s.arg 0).toNat, h⟩ false
    else if s.arg 1 = 1 then s.driveOutput ⟨(s.arg 0).toNat, h⟩ true
    else s.refuseOutput .badArgument
  else s.refuseOutput .badArgument

/-- SET_OUTPUT. -/
def execSetOutput (s : State) : Host.Outcome State Fault Refusal := done s (s.take State.setOutput)

/-! ## The other writes (R162, R165, R167, R168, R182, R183) -/

/-- A code that names no command is taken and completes with BAD_ARGUMENT (R168). -/
def State.unknownCommand (s : State) : Answer := s.refuse .badArgument

/-- The work a code names (R169); none for a code that names no command. -/
def commandOf (code : Word) : Option (State → Answer) :=
  match code.toNat with
  | 1 => some State.configure
  | 2 => some State.readConfig
  | 3 => some State.goOnline
  | 4 => some State.goOffline
  | 5 => some State.restart
  | 6 => some State.enter
  | 7 => some State.cancelEntry
  | 8 => some State.takePostCar
  | 9 => some State.lap
  | 10 => some State.quit
  | 11 => some State.openImage
  | 12 => some State.readResults
  | 13 => some State.ackResults
  | 14 => some State.readPeer
  | 15 => some State.readHealth
  | 16 => some State.setOutput
  | _ => none

/-- A write to the command word (R166 to R169). -/
def State.commandWrite (s : State) (code : Word) : State := s.take ((commandOf code).getD State.unknownCommand)

/-- UNKNOWN_COMMAND (R168). A code that names a command has its own row, and this one then changes nothing. -/
def execUnknownCommand (code : Word) (s : State) : Host.Outcome State Fault Refusal :=
  done s <| if (commandOf code).isNone then s.take State.unknownCommand else s

/-- COMMAND_LOST (R167): a code written while BUSY or LOADING is discarded, whatever the code. -/
def execCommandLost (_code : Word) (s : State) : Host.Outcome State Fault Refusal :=
  done s <| if s.cmd.unit = .idle then s else s.setCmd { s.cmd with lost := true }

/-- The head record removed; nothing on an empty queue (R182). -/
def State.releaseHead (s : State) : State := s.setEvents { s.events with records := s.events.records.tail }

/-- EVENT_RELEASE (R182). -/
def execEventRelease (s : State) : Host.Outcome State Fault Refusal := done s s.releaseHead

/-- The interrupt enable set from bit 0 of the value written (R183). -/
def State.writeEnable (s : State) (value : Word) : State :=
  s.setEvents { s.events with enable := value.getLsbD 0 }

/-- INTERRUPT_ENABLE_WRITE (R183). -/
def execInterruptEnableWrite (value : Word) (s : State) : Host.Outcome State Fault Refusal :=
  done s (s.writeEnable value)

/-- A word of the argument buffer replaced (R165). -/
def State.writeArgument (s : State) (i : Nat) (value : Word) : State :=
  s.setCmd { s.cmd with arguments := s.cmd.arguments.set i value }

/-- A write at a port address (R162). -/
def State.portWrite (s : State) (address : BitVec 9) (value : Word) : State :=
  let a := address.toNat
  if a < 0x010 then s.writeArgument a value
  else if a = 0x020 then s.commandWrite value
  else if a = 0x022 then s.writeEnable value
  else if a = 0x028 then s.releaseHead
  else s

/-- PORT_WRITE (R162). -/
def execPortWrite (address : BitVec 9) (value : Word) (s : State) : Host.Outcome State Fault Refusal :=
  done s (s.portWrite address value)

end Sys2Proof.Machine
end

