-- ==== Sys2Proof/Machine/Startup.lean ====
section
/-! DEFINITION. Start-up: the meanings of HARDWARE_RESET and LOAD_COMPLETION (R185 to R190). -/

namespace Sys2Proof.Machine

/-- HARDWARE_RESET (R185, R190): every block at its reset value, the straps sampled, LOADING begun. The commands that
wait, the count of free values and what the frame-pulse pin will read are not part of the hardware and stay. -/
def execHardwareReset (station : Station) (rate : Fin 4) (lowFirst : Bool) (memory : List Byte) (s : State) :
    Host.Outcome State Fault Refusal :=
  .next { State.afterReset ⟨station, rate, lowFirst⟩ memory with
    pending := s.pending, free := s.free, frame := { FrameCapture.initial with coming := s.frame.coming } }

/-- The settings put in force at the load-completion event (R188, R189): from the memory, or the factory table with
CONFIG_DEFAULTED. -/
def State.putLoaded (s : State) : State :=
  match memoryCheck s.loader.memory with
  | some true =>
    s.setLoader { s.loader with
      loadTimer := none, settings := settingsOfMemory s.loader.memory, defaulted := false }
  | some false =>
    (s.setLoader { s.loader with loadTimer := none, settings := Settings.factory, defaulted := true }).post
      .configDefaulted s.own 2 s.loader.loadTimer.instant
  | none =>
    (s.setLoader { s.loader with loadTimer := none, settings := Settings.factory, defaulted := true }).post
      .configDefaulted s.own 1 s.loader.loadTimer.instant

/-- The blocks that start at load completion (R5, R19, R48, R151, R190). -/
def State.startBlocks (s : State) : State :=
  let t := (s.setCmd { s.cmd with unit := .idle }).setFrame { s.frame with sampling := true }
  let t := (t.setRx { t.rx with monitor := .busy }).setTx { t.tx with stuckWatch := t.start stuckTime }
  t.setLamp { t.lamp with blinkPhase := 0, blinkTimer := t.start blinkHalf }

/-- LOAD_COMPLETION (R190): 5,000 µs after the release of hardware reset. -/
def execLoadCompletion (s : State) : Host.Outcome State Fault Refusal :=
  done s <|
    if s.cmd.unit = .loading ∧ s.loader.loadTimer.due s.tick = true then s.putLoaded.startBlocks else s

end Sys2Proof.Machine
end

