-- ==== Sys2Proof/Machine/Dispatch.lean ====
section
/-! DEFINITION. What each command does to everything but the queue: one arm per command, each a call of its meaning. -/

namespace Sys2Proof.Machine

def exec (i : Instr) (s : State) : Host.Outcome State Fault Refusal :=
  match i with
  | .hardwareReset station rate lowFirst memory => Sys2Proof.Machine.execHardwareReset station rate lowFirst memory s
  | .loadCompletion => Sys2Proof.Machine.execLoadCompletion s
  | .candidatePulse => Sys2Proof.Machine.execCandidatePulse s
  | .frameAbsentTimerExpiry => Sys2Proof.Machine.execFrameAbsentTimerExpiry s
  | .buildEntryRead => Sys2Proof.Machine.execBuildEntryRead s
  | .buildCompletion => Sys2Proof.Machine.execBuildCompletion s
  | .lineBusy => Sys2Proof.Machine.execLineBusy s
  | .idleGap => Sys2Proof.Machine.execIdleGap s
  | .frameBroken => Sys2Proof.Machine.execFrameBroken s
  | .frameCompletion bytes => Sys2Proof.Machine.execFrameCompletion bytes s
  | .startOpportunity => Sys2Proof.Machine.execStartOpportunity s
  | .readBackWhole => Sys2Proof.Machine.execReadBackWhole s
  | .collision => Sys2Proof.Machine.execCollision s
  | .stuckWatchExpiry => Sys2Proof.Machine.execStuckWatchExpiry s
  | .callCadenceTimerExpiry => Sys2Proof.Machine.execCallCadenceTimerExpiry s
  | .reportSpacingTimerExpiry => Sys2Proof.Machine.execReportSpacingTimerExpiry s
  | .resendTimerExpiry => Sys2Proof.Machine.execResendTimerExpiry s
  | .presenceTimerExpiry station => Sys2Proof.Machine.execPresenceTimerExpiry station s
  | .lostTimerExpiry station => Sys2Proof.Machine.execLostTimerExpiry station s
  | .silenceTimerExpiry => Sys2Proof.Machine.execSilenceTimerExpiry s
  | .lobbyTimerExpiry => Sys2Proof.Machine.execLobbyTimerExpiry s
  | .lockTimerExpiry => Sys2Proof.Machine.execLockTimerExpiry s
  | .greenTimerExpiry => Sys2Proof.Machine.execGreenTimerExpiry s
  | .graceCloseTimerExpiry => Sys2Proof.Machine.execGraceCloseTimerExpiry s
  | .limitCloseTimerExpiry => Sys2Proof.Machine.execLimitCloseTimerExpiry s
  | .resultsCeilingTimerExpiry => Sys2Proof.Machine.execResultsCeilingTimerExpiry s
  | .blinkTimerExpiry => Sys2Proof.Machine.execBlinkTimerExpiry s
  | .lampStepTimerExpiry lampStep => Sys2Proof.Machine.execLampStepTimerExpiry lampStep s
  | .lampGreenTimerExpiry => Sys2Proof.Machine.execLampGreenTimerExpiry s
  | .holdTimerExpiry => Sys2Proof.Machine.execHoldTimerExpiry s
  | .configure => Sys2Proof.Machine.execConfigure s
  | .readConfig => Sys2Proof.Machine.execReadConfig s
  | .goOnline => Sys2Proof.Machine.execGoOnline s
  | .goOffline => Sys2Proof.Machine.execGoOffline s
  | .restart => Sys2Proof.Machine.execRestart s
  | .enter => Sys2Proof.Machine.execEnter s
  | .cancelEntry => Sys2Proof.Machine.execCancelEntry s
  | .postCar => Sys2Proof.Machine.execPostCar s
  | .lap => Sys2Proof.Machine.execLap s
  | .quit => Sys2Proof.Machine.execQuit s
  | .openImage => Sys2Proof.Machine.execOpenImage s
  | .readResults => Sys2Proof.Machine.execReadResults s
  | .ackResults => Sys2Proof.Machine.execAckResults s
  | .readPeer => Sys2Proof.Machine.execReadPeer s
  | .readHealth => Sys2Proof.Machine.execReadHealth s
  | .setOutput => Sys2Proof.Machine.execSetOutput s
  | .unknownCommand code => Sys2Proof.Machine.execUnknownCommand code s
  | .commandLost code => Sys2Proof.Machine.execCommandLost code s
  | .commandCompletion => Sys2Proof.Machine.execCommandCompletion s
  | .eventRelease => Sys2Proof.Machine.execEventRelease s
  | .interruptEnableWrite value => Sys2Proof.Machine.execInterruptEnableWrite value s
  | .portWrite address value => Sys2Proof.Machine.execPortWrite address value s
  | .frameInputLevelConfirmed high => Sys2Proof.Machine.execFrameInputLevelConfirmed high s
  | .startDelimiterRecognised => Sys2Proof.Machine.execStartDelimiterRecognised s

end Sys2Proof.Machine
end

