-- ==== Sys2Proof/Machine/Idle.lean ====
section
/-! DEFINITION. The passage of time, when no command waits: the local tick and what comes due at it (R1, R3;
notes/assumptions/1.md). -/

namespace Sys2Proof.Machine

/-! ## What must come now -/

/-- An event, if it is due. -/
def dueIf (b : Bool) (c : Instr) : List Instr := if b then [c] else []

/-- A start opportunity stands open (R40). -/
def State.opportunityOpen (s : State) : Bool := s.tx.phase.mayBegin && s.workPending && s.lineOpen

/-- The instant of the take of the command in progress (R166). -/
def UnitState.taken (u : UnitState) : Option Instant :=
  match u with
  | .busy _ _ taken => some taken
  | .loading | .idle => none

/-- COMMAND_COMPLETION comes at most 50 µs after the take (R166). -/
def State.completionDue (s : State) : Bool := s.cmd.unit.taken.any fun i => decide (50 ≤ interval i s.tick)

/-- COMMAND_COMPLETION may come before then (R166). -/
def State.completionPossible (s : State) : Bool := s.cmd.unit.taken.any fun i => decide (interval i s.tick < 50)

/-- The next event of a build in progress. -/
def Build.nextEvent (b : Build) : Instr := if b.next < 8 then .buildEntryRead else .buildCompletion

/-- A build takes less than 1 ms (R13). -/
def Build.due (b : Build) (now : Instant) : Bool := decide (999 ≤ interval b.started now)

/-- The next event of the build in progress, if it is due, or if it is not yet. -/
def State.buildStep (s : State) (due : Bool) : List Instr :=
  match s.image.build with
  | none => []
  | some b => dueIf (b.due s.tick == due) b.nextEvent

/-- The events of the Transmitter that are due. -/
def State.txDue (s : State) : List Instr :=
  dueIf s.opportunityOpen .startOpportunity ++ dueIf (s.tx.stuckWatch.due s.tick) .stuckWatchExpiry ++
    dueIf (s.tx.callTimer.due s.tick) .callCadenceTimerExpiry ++
    dueIf (s.tx.spacingTimer.due s.tick) .reportSpacingTimerExpiry ++
    dueIf (s.tx.resendTimer.due s.tick) .resendTimerExpiry

/-- The expiries of the Peer Table that are due. -/
def State.peersDue (s : State) : List Instr :=
  (stations.flatMap fun p => dueIf ((s.entry p).presenceTimer.due s.tick) (.presenceTimerExpiry p)) ++
    (stations.flatMap fun p => dueIf ((s.entry p).lostTimer.due s.tick) (.lostTimerExpiry p)) ++
    dueIf (s.peers.silenceTimer.due s.tick) .silenceTimerExpiry

/-- The expiries of the Race Sequencer that are due. -/
def State.raceDue (s : State) : List Instr :=
  dueIf (s.race.lobbyTimer.due s.tick) .lobbyTimerExpiry ++ dueIf (s.race.lockTimer.due s.tick) .lockTimerExpiry ++
    dueIf (s.race.greenTimer.due s.tick) .greenTimerExpiry ++
    dueIf (s.race.graceTimer.due s.tick) .graceCloseTimerExpiry ++
    dueIf (s.race.limitTimer.due s.tick) .limitCloseTimerExpiry ++
    dueIf (s.race.ceilingTimer.due s.tick) .resultsCeilingTimerExpiry

/-- The expiries of the Lamp Unit that are due. -/
def State.lampDue (s : State) : List Instr :=
  dueIf (s.lamp.blinkTimer.due s.tick) .blinkTimerExpiry ++
    (pins.flatMap fun i => dueIf ((s.lamp.stepTimers.get i).due s.tick) (.lampStepTimerExpiry i)) ++
    dueIf (s.lamp.greenTimer.due s.tick) .lampGreenTimerExpiry ++
    dueIf (s.lamp.holdTimer.due s.tick) .holdTimerExpiry

/-- Load completion is due (R190). -/
def State.loadDue (s : State) : Bool := decide (s.cmd.unit = .loading) && s.loader.loadTimer.due s.tick

/-- A candidate is forming: in PRESENT, the newest sample is the first low one, and the next reads low too (R4). A spike
one sample wide is none. -/
def FrameCapture.forming (f : FrameCapture) : Bool :=
  f.sampling && decide (f.input = .present) && decide (f.level = some true) && decide (f.newest = some false) &&
    decide (f.previous ≠ some false) && !f.coming

/-- The frame-absent timer's expiry may wait for the next tick: the tick is its instant, and that of the first low sample
of a candidate, whose acceptance R11 weighs against the expiry (notes/assumptions/31.md). -/
def State.absentMayWait (s : State) : Bool := s.frame.forming && decide (s.frame.absentTimer = some s.tick)

/-- The row of a level confirmed: a change from high to low is a candidate, any other is none (R4). -/
def FrameCapture.confirmation (f : FrameCapture) (high : Bool) : Instr :=
  if f.level = some true ∧ high = false then .candidatePulse else .frameInputLevelConfirmed high

/-- The events of Frame Capture that are due (R4, R11). -/
def State.frameDue (s : State) : List Instr :=
  dueIf (s.frame.absentTimer.due s.tick && !s.absentMayWait) .frameAbsentTimerExpiry ++
    s.frame.toConfirm.toList.map s.frame.confirmation

/-- Everything that must come before the tick moves on (R3). -/
def State.dueEvents (s : State) : List Instr :=
  dueIf s.loadDue .loadCompletion ++ s.frameDue ++ s.txDue ++
    s.peersDue ++ s.raceDue ++ s.lampDue ++ dueIf s.completionDue .commandCompletion ++ s.buildStep true

/-! ## What may come now -/

/-- The events whose instant the manual bounds but does not fix: a command's completion and the steps of a build, before
they are due (R137, R166), and a frame-absent expiry that may wait (R11). -/
def State.possibleEvents (s : State) : List Instr :=
  dueIf (s.frame.absentTimer.due s.tick && s.absentMayWait) .frameAbsentTimerExpiry ++
    dueIf s.completionPossible .commandCompletion ++ s.buildStep false

/-! ## The step of time -/

/-- The count of whole milliseconds STUCK at the next tick (R48). -/
def Transmitter.countStuck (t : Transmitter) (now : Instant) : Transmitter :=
  if t.phase = .stuck ∧ (now - t.stuckSince).toNat % 1000 = 0 then { t with stuckCount := satInc t.stuckCount } else t

/-- The line stays open as the tick advances (R40): an opportunity instant that the next tick would no longer count as
reached, half a turn of the tick after it, moves on with the tick (notes/assumptions/32.md). -/
def Transmitter.keepOpen (t : Transmitter) (now : Instant) : Transmitter :=
  { t with opportunity := t.opportunity.map fun o =>
      if reached now o && !reached (now + 1) o then now + 1 else o }

/-- The frame-pulse input at a local microsecond (R4, R5). What the pin reads next is a free value
(notes/assumptions/37.md). -/
def State.sampleInput (s : State) : State :=
  (s.setFrame (s.frame.sample (Config.frameInputLevel s.free))).setFree (s.free + 1)

/-- The tick advances by one (R1), and the frame-pulse input is sampled (R4). -/
def State.advance (s : State) : State :=
  ((s.setTick (s.tick + 1)).setTx ((s.tx.keepOpen s.tick).countStuck (s.tick + 1))).sampleInput

/-- What may come next: none stands for the tick, which waits for everything that is due. -/
def State.options (s : State) : List (Option Instr) :=
  (if s.dueEvents.isEmpty then [none] else s.dueEvents.map some) ++ s.possibleEvents.map some

/-- One of the options taken: an event goes to the front of the queue, and the next step runs it. -/
def State.takeOption (s : State) (o : Option Instr) : State :=
  match o with
  | none => s.advance
  | some c => s.setPending (c :: s.pending)

/-- Time passes: the one option there is, or one of several, which the manual leaves open (R3; free value,
notes/assumptions/2.md). -/
def State.idle (s : State) : State :=
  match s.options with
  | [] => s.advance
  | [o] => s.takeOption o
  | o :: rest =>
    (s.setFree (s.free + 1)).takeOption ((o :: rest).getD (Config.schedulerChoice s.free % (rest.length + 1)) o)

end Sys2Proof.Machine
end

