-- ==== Sys2Proof/Machine/Step.lean ====
section
/-! DEFINITION. One step: the command at the front of the queue, or, on an empty queue, the passage of time. -/

namespace Sys2Proof.Machine

/-- One step of the part. A command at the front of the queue is taken and run on the state with the queue's rest.
On an empty queue time passes (notes/assumptions/1.md). -/
def step (s : State) : Host.Outcome State Fault Refusal :=
  match s.pending with
  | c :: rest => exec c { s with pending := rest }
  | [] => .next s.idle

/-- The state with the command a word spells at the front of its queue. No word spells one (R169's codes are port
words, not table words), so the state is unchanged (notes/assumptions/8.md). -/
def State.withFetchWord (s : State) (nbits w : Nat) : State :=
  match decodeTableWord nbits w with
  | some c => { s with pending := c :: s.pending }
  | none => s

end Sys2Proof.Machine
end

