-- ==== Sys2Proof/Safety.lean ====
section
/-! DEFINITION. What counts as a safe run, and the invariants of the machine: what every step keeps. -/

namespace Sys2Proof

/-- A step that answers a next state. -/
def Safe (s : Machine.State) : Prop := ∃ t, Machine.step s = .next t

namespace Machine

/-- The current frame's source exists, or the frame is SENDING (R46). -/
def State.currentStands (s : State) : Bool :=
  match s.tx.current with
  | none => true
  | some c => decide (s.tx.phase = .sending) || s.sourceExists c.source

/-- At most four control frames wait (R35). -/
def State.controlBounded (s : State) : Prop := s.tx.queue.length ≤ 4

/-- The Event Queue holds at most 32 records; an OVERFLOW record is the newest, and only with it are there 32 (R181). -/
def EventQueue.bounded (q : EventQueue) : Prop :=
  q.records.length ≤ 32 ∧ overflowHeld q.records.dropLast = false ∧
    (overflowHeld q.records = false → q.records.length ≤ 31)

/-- A value lies in a range. -/
def within (lo hi v : Nat) : Prop := lo ≤ v ∧ v ≤ hi

/-- Every setting lies in its range (R189). -/
def Settings.inRange (t : Settings) : Prop :=
  within 16 250 t.horizon ∧ within 100 2000 t.lostTimeout ∧ within 1 65535 t.th0 ∧ within 1 65535 t.th1 ∧
    within 1 32768 t.headingThreshold ∧ within 1 6 t.blendShift ∧ within 4 50 t.reportSpacing ∧
    within 5 60 t.lobbyWindow ∧ within 1 8 t.minField ∧ within 3000 10000 t.startLead ∧
    within 60 1800 t.raceLimit ∧ within 5 60 t.finishGrace ∧ within 0 5000 t.greenHold ∧
    ∀ i, within 0 10000 (t.lampSteps.get i).offset

/-- Two neighbours of the frame history: numbers one apart, capture ticks at least 4,000 µs apart (R9). -/
def HistoryEntry.follows (a b : HistoryEntry) : Prop := b.number = a.number + 1 ∧ minFrameTime ≤ interval a.capture b.capture

/-- A list in which each element stands in a relation to the one after it. -/
def linked {α : Type} (r : α → α → Prop) : List α → Prop
  | [] => True
  | [_] => True
  | a :: b :: rest => r a b ∧ linked r (b :: rest)

/-- Frame Capture: in ABSENT the history is empty, the period unknown and the timer stopped; in PRESENT the newest of
at most eight consecutive frames is the counter's, and the timer stands 100,000 µs after its capture (R8 to R12). -/
def FrameCapture.coherent (f : FrameCapture) : Prop :=
  f.history.length ≤ 8 ∧ linked HistoryEntry.follows f.history ∧
    match f.input with
    | .absent => f.history = [] ∧ f.period = none ∧ f.absentTimer = none
    | .present =>
      ∃ c, f.lastCapture = some c ∧ f.history.getLast? = some ⟨f.counter, c⟩ ∧ f.absentTimer = some (c + frameAbsentTime)

/-- The number of banks a test picks. -/
def ImageBuilder.count (b : ImageBuilder) (f : Bank → Bool) : Nat := b.banks.countP f

/-- At most one bank is READY and at most one OPEN; exactly one is FILLING while a build is in progress, and none
otherwise (R136). -/
def ImageBuilder.coherent (b : ImageBuilder) : Prop :=
  b.count (fun k => k.readyImage.isSome) ≤ 1 ∧ b.count (fun k => k.openImage.isSome) ≤ 1 ∧
    b.count (fun k => k.fillingImage.isSome) = if b.build.isSome then 1 else 0

/-- The Race Sequencer: the record stands in the race states (R86), the results list and the ceiling mark in RESULTS
(R110, R115), the entry outside OFFLINE and ATTRACT (R77), and the lap count is the length of the lap list (R98). -/
def Sequencer.coherent (q : Sequencer) : Prop :=
  q.record.isSome = q.own.isRace ∧ q.results.isSome = decide (q.own = .results) ∧
    (q.ceilingMark = true → q.own = .results) ∧
    q.entry.isSome = decide (q.own ≠ .offline ∧ q.own ≠ .attract) ∧ q.lapCount = q.lapList.length

/-- The Command Unit: both buffers hold 16 words, and a reply, shown or being formed, at most 16 (R164, R165). -/
def CommandUnit.coherent (c : CommandUnit) : Prop :=
  c.arguments.length = 16 ∧ c.reply.length = 16 ∧ c.replyLength ≤ 16 ∧
    ∀ r reply at', c.unit = .busy r reply at' → reply.length ≤ 16

end Machine

end Sys2Proof
end

