-- ==== Sys2Proof/Certificates/Slice0/Obligations.lean ====
section
/-! DEFINITION. The statements for the provers. The first part names what several statements say alike. -/

namespace Sys2Proof.Claims

open Sys2Proof.Machine

/-! ## Codes as the manual's tables give them -/

/-- The codes of the own race state (R141). -/
def ownCode : OwnState → Nat
  | .offline => 0
  | .attract => 1
  | .entered => 2
  | .countdown => 3
  | .racing => 4
  | .finished => 5
  | .results => 6

/-- The codes of an entry state (R53). -/
def peerCode : EntryState → Nat
  | .absent => 0
  | .present => 1
  | .entered => 2
  | .elsewhere => 3
  | .grid => 4
  | .racing => 5
  | .finished => 6
  | .lost => 7
  | .retired => 8

/-- The code of the Transmitter state shown: IDLE and DEFER differ by whether work is pending (R34, R164). -/
def txCode (s : State) : Nat :=
  match s.tx.phase with
  | .ready => if s.workPending then 1 else 0
  | .sending => 2
  | .backoff => 3
  | .stuck => 4
  | .disabled => 5

/-- The codes of a category (R116). -/
def categoryCode : Category → Nat
  | .finished => 0
  | .dnf => 1
  | .lost => 2
  | .retired => 3

/-- The codes of a surface class (R28). -/
def surfaceCode : Surface → Nat
  | .onRoad => 0
  | .offRoad => 1
  | .airborne => 2
  | .spun => 3

/-- The kind codes of a frame (R22). -/
def frameCode : Payload → Nat
  | .call _ _ => 1
  | .start _ => 2
  | .car _ => 3
  | .withdraw _ => 4

/-- The kind code of the frame a source gives (R22, R41). -/
def sourceCode : Source → Nat
  | .call => 1
  | .start => 2
  | .car => 3
  | .resend => 3
  | .withdraw _ => 4

/-- The codes of the event kinds (R180). -/
def eventCode : EventKind → Nat
  | .frameLost => 1
  | .frameReturned => 2
  | .txDropped => 3
  | .busStuck => 4
  | .busClear => 5
  | .duplicateStation => 6
  | .peerJoined => 7
  | .peerGone => 8
  | .peerEntered => 9
  | .peerLeftLobby => 10
  | .peerLost => 11
  | .peerReturned => 12
  | .peerRetired => 13
  | .peerFinished => 14
  | .linkSilent => 15
  | .linkHeard => 16
  | .lobbyExtended => 17
  | .startAdopted => 18
  | .startReplaced => 19
  | .startMissed => 20
  | .startLate => 21
  | .green => 22
  | .ownLap => 23
  | .ownFinished => 24
  | .resultsFinal => 25
  | .raceExpired => 26
  | .configDefaulted => 27
  | .overflow => 28

/-- The mask positions of the event kinds; OVERFLOW has none (R180). -/
def maskPosition : EventKind → Option Nat
  | .frameLost | .frameReturned => some 0
  | .txDropped => some 1
  | .busStuck | .busClear => some 2
  | .duplicateStation => some 3
  | .peerJoined => some 4
  | .peerGone => some 5
  | .peerEntered => some 6
  | .peerLeftLobby => some 7
  | .peerLost => some 8
  | .peerReturned => some 9
  | .peerRetired => some 10
  | .peerFinished => some 11
  | .linkSilent | .linkHeard => some 12
  | .lobbyExtended => some 13
  | .startAdopted => some 14
  | .startReplaced => some 15
  | .startMissed => some 16
  | .startLate => some 17
  | .green => some 18
  | .ownLap => some 19
  | .ownFinished => some 20
  | .resultsFinal => some 21
  | .raceExpired => some 22
  | .configDefaulted => some 23
  | .overflow => none

/-- The code of the command-unit state (R164). -/
def unitCode : UnitState → Nat
  | .loading => 0
  | .idle => 1
  | .busy _ _ _ => 2

/-- The result codes (R168). -/
def resultCode : Result → Nat
  | .ok => 0
  | .wrongState => 1
  | .badArgument => 2
  | .staleFrame => 3
  | .noNewer => 4
  | .early => 5
  | .tooSoon => 6
  | .disabled => 7
  | .clamped => 8

/-- The commands by their codes (R169). -/
def commandTable : List (Nat × Instr) :=
  [(1, .configure), (2, .readConfig), (3, .goOnline), (4, .goOffline), (5, .restart), (6, .enter),
    (7, .cancelEntry), (8, .postCar), (9, .lap), (10, .quit), (11, .openImage), (12, .readResults),
    (13, .ackResults), (14, .readPeer), (15, .readHealth), (16, .setOutput)]

/-! ## What several statements say alike -/

/-- The event records after a list of posts, in order (R181). -/
def posted (s : State) (l : List EventRecord) : List EventRecord :=
  l.foldl (fun q r => postRecord s.settings.eventMask s.own r q) s.events.records

/-- A record, if it is posted. -/
def postIf (b : Bool) (r : EventRecord) : List EventRecord := if b then [r] else []

/-- The Command Unit after a take with a result and a reply (R166). -/
def taken (s : State) (r : Result) (reply : List Word) : CommandUnit :=
  { s.cmd with copied := s.cmd.arguments, lost := false, unit := .busy r reply s.tick }

/-- An argument word as the game wrote it (R165). -/
def argument (s : State) (i : Nat) : Word := wordAt s.cmd.arguments i

/-- An argument pair as the game wrote it (R163). -/
def argumentPair (s : State) (i : Nat) : BitVec 32 :=
  if s.straps.lowFirst then argument s (i + 1) ++ argument s i else argument s i ++ argument s (i + 1)

/-- A frame is being assembled, with bus instant a: its arrival stamp less two bit periods (R17, R21). It is no frame still
read back across a RESTART (R50). -/
def assembling (s : State) (a : Instant) : Prop :=
  (∃ r, s.rx.arrival = some r ∧ a = r - BitVec.ofNat 32 (8 / 2 ^ s.straps.rate.val)) ∧ s.tx.crossing = false

/-- The Bus Receiver after a valid frame (R52). -/
def afterGood (r : BusReceiver) : BusReceiver :=
  { r with arrival := none, goodFrames := if r.remains then r.goodFrames else satInc r.goodFrames }

/-- The Bus Receiver after a discard (R52). -/
def afterDiscard (r : BusReceiver) : BusReceiver :=
  { r with arrival := none, crcErrors := if r.remains then r.crcErrors else satInc r.crcErrors }

/-- The reception fields of an entry after a frame (R57). -/
def received (e e' : Entry) (f : BusFrame) (a : Instant) : Prop :=
  e'.lastHeard = some a ∧ e'.lastSequence = some f.sequence ∧ e'.raceFlag = f.raceFlag ∧
    e'.window = shiftWindow e.window e.lastSequence f.sequence

/-- The entry of a station whose START changes no race: reception alone for a participant; any other sender is ELSEWHERE,
its presence timer restarted (R57, R59, R61, R84). -/
def passedOver (e e' : Entry) (f : BusFrame) (a : Instant) : Prop :=
  e' = { e with
    state := if e.state.isRace then e.state else .elsewhere
    presenceTimer := if e.state.isRace then e.presenceTimer else some (a + 1000000)
    lastHeard := some a, lastSequence := some f.sequence, raceFlag := f.raceFlag
    window := shiftWindow e.window e.lastSequence f.sequence }

/-- A rate word as it is taken: -32,768 as -32,767 (R31, R119). -/
def takenRate (w : Word) : Word := if w = 0x8000#16 then 0x8001#16 else w

/-- The record of PEER_JOINED, for a sender that was ABSENT (R59). -/
def joined (s : State) (f : BusFrame) (a : Instant) : List EventRecord :=
  postIf (decide ((s.entry f.sender).state = .absent))
    ⟨.peerJoined, f.sender, BitVec.ofNat 16 (frameCode f.payload), a⟩

/-- The record of LINK_HEARD, while SILENT is set (R73). -/
def linkHeard (s : State) (f : BusFrame) (a : Instant) : List EventRecord :=
  postIf s.peers.silent ⟨.linkHeard, f.sender, BitVec.ofNat 16 (frameCode f.payload), a⟩

/-- The silence timer and its marks after a frame from another station (R73). -/
def linkAlive (t : State) (a : Instant) : Prop :=
  t.peers.silenceTimer = some (a + 1000000) ∧ t.peers.heard = true ∧ t.peers.silent = false

/-- An entry as a clearing of the table leaves it (R55, R75, R133). -/
def cleared (e : Entry) : Prop :=
  e.state = .absent ∧ e.lastHeard = none ∧ e.lastSequence = none ∧ e.window = [] ∧ e.raceFlag = false ∧
    e.dnf = false ∧ e.resend = false ∧ e.presenceTimer = none ∧ e.lostTimer = none ∧ e.lobby = none ∧
    e.car = none ∧ e.finish = none ∧ e.display = ⟨0, 0, 0, 0, 0, 0, 0, 0, 0, false, false⟩

/-- A station seated (R64): GRID, its record, finish, timers and display gone; reception and lobby info kept. -/
def seated (e e' : Entry) : Prop :=
  e' = { e with
    state := .grid, car := none, finish := none, presenceTimer := none, lostTimer := none
    display := ⟨0, 0, 0, 0, 0, 0, 0, 0, 0, false, false⟩ }

/-- An ordinary arrival blend (R126 to R128) of a display, from the old and the new record carried to A: the errors are
the old prediction with its correction less the new one; a stale old record or an error beyond its threshold snaps. -/
def blended (t : Settings) (d : Display) (old new : Carried) (surface : Surface) (stale : Bool) : Display :=
  let ex := old.x.toInt + d.cx - new.x.toInt
  let ey := old.y.toInt + d.cy - new.y.toInt
  let ez := old.z.toInt + d.cz - new.z.toInt
  let eh := old.h + d.ch - new.h
  let limit := if t.surfaceMap.getLsbD (surfaceCode surface) then t.th1 else t.th0
  if stale = true ∨ limit < ex.natAbs ∨ limit < ey.natAbs ∨ limit < ez.natAbs ∨
      t.headingThreshold < eh.toInt.natAbs then
    { d with cx := 0, cy := 0, cz := 0, ch := 0, snapped := true }
  else { d with cx := ex, cy := ey, cz := ez, ch := eh }

/-- The display of an entry after an accepted CAR of bus instant a (R66, R125 to R128): kept where the record held has a
later sample instant and the entry is not LOST, snapped where there is no record or the entry is LOST, else blended. -/
def displayAfterCar (t : Settings) (e : Entry) (c : CarReport) (a : Instant) (d : Display) : Prop :=
  (∀ r, e.car = some r → e.state ≠ .lost → 0 < interval (a - c.sampleAge.setWidth 32) r.car.sample → d = e.display) ∧
    (e.car = none ∨ e.state = .lost → d = { e.display with cx := 0, cy := 0, cz := 0, ch := 0, snapped := true }) ∧
    ∀ r, e.car = some r → e.state ≠ .lost → interval (a - c.sampleAge.setWidth 32) r.car.sample ≤ 0 →
      d = blended t e.display (r.car.carry t a) ((c.values a).carry t a) c.surface (staleAt t r.car.sample a)

/-- No race is held by the Race Sequencer (R118). -/
def raceless (q : Sequencer) : Prop :=
  q.record = none ∧ q.lockTimer = none ∧ q.greenTimer = none ∧ q.lapCount = 0 ∧ q.lapList = [] ∧
    q.earliest = none ∧ q.graceTimer = none ∧ q.limitTimer = none ∧ q.ceilingTimer = none ∧
    q.ceilingMark = false ∧ q.results = none

/-- The lamp program is DARK with its timers stopped (R157). -/
def dark (l : LampUnit) : Prop :=
  l.program = .dark ∧ (∀ i, l.stepTimers.get i = none) ∧ l.greenTimer = none ∧ l.holdTimer = none

/-- The CAR slot is EMPTY without a finish mark, and its two timers are stopped (R36, R50). -/
def slotEmpty (t : Transmitter) : Prop :=
  t.slot.state = .empty ∧ t.slot.finishMark = false ∧ t.spacingTimer = none ∧ t.resendTimer = none

/-- The frame of a mask of stations as the field counts it (R80). -/
def fieldCount (s : State) : Nat :=
  stations.countP fun p =>
    decide (p = s.own) || (decide ((s.entry p).state = .entered) && (s.entry p).lobby.isSome &&
      decide ((s.entry p).lobby = s.race.entry))

/-- A bus frame as a receiver reads it back: no rate of -32,768 (R31). -/
def sendable : Payload → Prop
  | .car c => c.vx ≠ 0x8000#16 ∧ c.vy ≠ 0x8000#16 ∧ c.vz ≠ 0x8000#16 ∧ c.w ≠ 0x8000#16 ∧ c.q ≠ 0x8000#16
  | .call _ _ | .start _ | .withdraw _ => True

/-- n is the integer nearest to p over 32,768, halves upward (R122). -/
def nearest (p n : Int) : Prop := 65536 * n - 32768 ≤ 2 * p ∧ 2 * p < 65536 * n + 32768

/-- The order of the four groups of R114. -/
def groupOrder : Category → Nat
  | .finished => 0
  | .dnf => 1
  | .lost => 2
  | .retired => 3

/-- Results record a ranks before b (R114). -/
def ranksBefore (a b : ResultRecord) : Prop :=
  groupOrder a.category < groupOrder b.category ∨
    (a.category = b.category ∧
      match a.category with
      | .finished =>
        (a.finish.getD 0).toNat < (b.finish.getD 0).toNat ∨ (a.finish.getD 0 = b.finish.getD 0 ∧ a.station < b.station)
      | .dnf | .lost =>
        (b.progress.getD 0).toNat < (a.progress.getD 0).toNat ∨
          (a.progress.getD 0 = b.progress.getD 0 ∧ a.station < b.station)
      | .retired => a.station < b.station)

/-- The group of a station record in the live rank (R143): own states COUNTDOWN to RESULTS have the codes 3 to 6, peer
states GRID, RACING and FINISHED 4 to 6, LOST 7 and RETIRED 8. -/
def liveGroup (r : StationRecord) : Nat :=
  if r.finishValid = true then 1
  else if (r.own = true ∧ 3 ≤ r.state) ∨ (r.own = false ∧ 4 ≤ r.state ∧ r.state ≤ 6) then 2
  else if r.own = false ∧ r.state = 7 then 3
  else if r.own = false ∧ r.state = 8 then 4
  else 5

/-- Station a, with record ra, ranks before station b, with record rb, in an image (R143). -/
def ranksLive (a b : Station) (ra rb : StationRecord) : Prop :=
  liveGroup ra < liveGroup rb ∨
    (liveGroup ra = liveGroup rb ∧
      ((liveGroup ra = 1 ∧ (ra.finish.toInt < rb.finish.toInt ∨ (ra.finish = rb.finish ∧ a < b))) ∨
        ((liveGroup ra = 2 ∨ liveGroup ra = 3) ∧ (rb.g.toNat < ra.g.toNat ∨ (ra.g = rb.g ∧ a < b))) ∨
        (4 ≤ liveGroup ra ∧ a < b)))

/-- An argument word brought into a range: the nearer limit outside it (R189, R191). -/
def limited (lo hi : Nat) (w : Word) : Nat := min (max w.toNat lo) hi

/-- The words of group 0 whose value has a range, with the range (R178, R189). -/
def groupZeroLimits : List (Nat × Nat × Nat) :=
  [(0, 16, 250), (1, 100, 2000), (2, 1, 65535), (3, 1, 65535), (5, 1, 32768), (6, 1, 6), (7, 4, 50), (8, 5, 60),
    (9, 1, 8), (10, 3000, 10000), (11, 60, 1800), (12, 5, 60)]

/-- A pin's two-bit field of a number (R178). -/
def pinCode (n : Nat) (p : Pin) : Nat := n / 4 ^ p.val % 4

/-- A fail-safe value taken from a two-bit field, 3 as 2 (R178, R189). -/
def failSafeFrom (n : Nat) (v : FailSafe) : Prop := (n = 0 ∧ v = .off) ∨ (n = 1 ∧ v = .on) ∨ (2 ≤ n ∧ v = .blink)

/-- A pin function taken from a two-bit field, 3 as 2 (R178, R189). -/
def functionFrom (n : Nat) (v : PinFunction) : Prop :=
  (n = 0 ∧ v = .lamp) ∨ (n = 1 ∧ v = .link) ∨ (2 ≤ n ∧ v = .plain)

/-- The byte a place of the live rank list shows: the station, 0xFF after the last (R149). -/
def rankShown (i : Image) (k : Nat) : Nat :=
  match i.ranking[k]? with
  | some p => p.val
  | none => 255

/-- The lobby info READ_PEER shows: for the own station its own signature and laps (R56, R176). -/
def lobbyShown (s : State) (p : Station) : Option LobbyInfo :=
  if p = s.own then s.race.entry else (s.entry p).lobby

/-- A lap time of the own lap list, the first from the origin (R102, R113). -/
def lapTime (l : List (BitVec 32)) (i : Nat) : BitVec 32 := l.getD i 0 - if i = 0 then 0 else l.getD (i - 1) 0

/-- A control frame is the current frame (R35). -/
def controlCurrent (s : State) : Prop := ∃ c, s.tx.current = some c ∧ (sourceCode c.source = 2 ∨ sourceCode c.source = 4)

/-- Four control frames are held; left, the oldest that is not current, leaves when a fifth is placed, and kept stays
(R35). -/
def overflows (s : State) (left : ControlFrame) (kept : List ControlFrame) : Prop :=
  ∃ a b rest, s.tx.queue = a :: b :: rest ∧ rest.length = 2 ∧
    ((controlCurrent s ∧ left = b ∧ kept = a :: rest) ∨ (¬ controlCurrent s ∧ left = a ∧ kept = b :: rest))

/-- TX_DROPPED for a control frame pushed out; its stamp, the tick, is the model's choice (notes/assumptions/33.md). -/
def pushedOut (s : State) (left : ControlFrame) : EventRecord :=
  ⟨.txDropped, s.own, BitVec.ofNat 16 (if left = .start then 2 else 4), s.tick⟩

/-- The PEER_GONE records of an unseating: for each LOST peer that a test picks (R72). They come in rising station order, at
a START by R84, at QUIT and ACK_RESULTS by the model's choice (notes/assumptions/16.md). -/
def gone (s : State) (leaves : Station → Bool) (stamp : Instant) : List EventRecord :=
  (stations.filter fun p => leaves p && decide (p ≠ s.own) && decide ((s.entry p).state = .lost)).map fun p =>
    ⟨.peerGone, p, 7, stamp⟩

/-- A participant's entry unseated (R72), at a tick. -/
def unseated (e e' : Entry) (now : Instant) : Prop :=
  (e.state = .lost → e'.state = .absent ∧ e'.presenceTimer = none ∧ e'.lobby = none) ∧
    (e.state ≠ .lost → e.lastHeard.isSome = true → e'.state = .present ∧ e'.presenceTimer = some (now + 1000000) ∧
      e'.lobby = e.lobby ∧ e'.lastHeard = e.lastHeard) ∧
    (e.state ≠ .lost → e.lastHeard = none → e'.state = .absent ∧ e'.presenceTimer = none ∧ e'.lobby = none) ∧
    e'.car = none ∧ e'.finish = none ∧ e'.lostTimer = none

/-- Step k governs: it is reached, and of the reached steps it is the latest, the later in the program where two share
an instant (R152). -/
def governs (steps : Four Instant) (hit : Pin → Bool) (k : Pin) : Prop :=
  hit k = true ∧ ∀ j, j ≠ k → hit j = true →
    0 < interval (steps.get j) (steps.get k) ∨ (steps.get j = steps.get k ∧ j < k)

/-- g is the governing step at a tick, by the instants reached then: none while none is, else the one that governs (R2,
R152). With a green hold of 0 a step at green itself never governs before green, so that the pattern fixed at green is
never driven (R155; notes/assumptions/40.md). -/
def governedAt (t : Settings) (green : Instant) (steps : Four Instant) (now : Instant) (g : Option Pin) : Prop :=
  ∀ hit : Pin → Bool,
    (∀ j, hit j = true ↔ reached now (steps.get j) = true ∧ ¬ (t.greenHold = 0 ∧ steps.get j = green)) →
      ((∀ j, hit j = false) → g = none) ∧ ∀ k, governs steps hit k → g = some k

/-- The lamp schedule of a green instant: each step at green less its offset, reached at once where its instant is, and
the governing step (R152, R153, R156). -/
def scheduledAt (t : Settings) (now green : Instant) (l : LampUnit) : Prop :=
  ∃ steps g, l.program = .scheduled green steps g ∧ l.greenTimer = some green ∧ l.holdTimer = none ∧
    governedAt t green steps now g ∧
    ∀ k, steps.get k = green - BitVec.ofNat 32 ((t.lampSteps.get k).offset * 1000) ∧
      l.stepTimers.get k = if reached now (steps.get k) then none else some (steps.get k)

/-- POST_CAR and QUIT are taken: the own race state is COUNTDOWN, RACING or FINISHED (R95, R171). -/
def racing (s : State) : Prop := s.race.own = .countdown ∨ s.race.own = .racing ∨ s.race.own = .finished

/-- A station's entry counts as done (R109). -/
def isDone (e : Entry) : Prop := e.state = .finished ∨ e.state = .lost ∨ e.state = .retired

/-- A station's rank in a results list is the place of its record, counted from 1, and 0 where it has none (R110, R113). -/
def rankIs (l : List ResultRecord) (p : Station) (n : Nat) : Prop :=
  ((∀ x ∈ l, x.station ≠ p) → n = 0) ∧
    ∀ k x, l[k]? = some x → x.station = p → (∀ j y, j < k → l[j]? = some y → y.station ≠ p) → n = k + 1

/-- The record of RESULTS_FINAL at a close (R110). Its stamp, the tick of the event that closes the race, is the model's choice
of close instant (notes/assumptions/42.md). -/
def finalRecord (s : State) (l : List ResultRecord) : EventRecord :=
  ⟨.resultsFinal, s.own, BitVec.ofNat 16 (rankOf l s.own), s.tick⟩

/-- What a frame of a source carries when it departs in a state (R22, R26, R29 to R33, R42, R82, R115): a CAR or a resend
the slot's values, the own lap count, DNF as the own result says, RESEND as the slot says, and its ages, which are the
largest there are once the ceiling mark is set. -/
def carries (s : State) (x : Source) (f : BusFrame) : Prop :=
  f.sender = s.own ∧ f.raceFlag = s.race.own.isRace ∧ f.sequence = s.tx.sequence ∧
    frameCode f.payload = sourceCode x ∧
    (∀ n, x = .withdraw n → f.payload = .withdraw n) ∧
    (x = .call → f.payload =
      if s.race.own = .entered then .call true (s.race.entry.getD ⟨0, 0⟩) else .call false ⟨0, 0⟩) ∧
    (∀ l, x = .start → s.race.entry = some l →
      ∃ m : Byte, f.payload = .start ⟨BitVec.ofNat 24 (s.settings.startLead * 1000), m, l⟩ ∧
        ∀ p, inMask m p = (decide (p = s.own) || (decide ((s.entry p).state = .entered) &&
          decide ((s.entry p).lobby = some l)))) ∧
    ∀ v, (x = .car ∨ x = .resend) → (s.tx.slot.state = .unsent v ∨ s.tx.slot.state = .sent v) →
      ∃ c : CarReport, f.payload = .car c ∧
        c = ⟨c.sampleAge, v.x, v.y, v.z, v.vx, v.vy, v.vz, v.h, v.w, v.g, v.q, v.surface, c.dnf,
          decide (s.tx.slot.state = .sent v), BitVec.ofNat 8 s.race.lapCount, c.finishAge⟩ ∧
        (c.dnf = true ↔ s.race.own = .results ∧
          ∃ l r, s.race.results = some l ∧ r ∈ l ∧ r.station = s.own ∧ r.category = .dnf) ∧
        (s.race.ceilingMark = true → c.sampleAge = 16777215) ∧
        (s.race.ceilingMark = false → (s.tick - v.sample).toNat < 16777215 →
          c.sampleAge.toNat = (s.tick - v.sample).toNat) ∧
        (s.race.ceilingMark = false → 16777215 ≤ (s.tick - v.sample).toNat → c.sampleAge.toNat = 16777215) ∧
        (s.tx.slot.finishMark = false → c.finishAge = none) ∧
        (s.tx.slot.finishMark = true → s.race.ceilingMark = true → c.finishAge = some 4294967295) ∧
        (s.tx.slot.finishMark = true → s.race.ceilingMark = false → c.finishAge.isSome = true ∧
          ∀ r n, s.race.record = some r → (s.entry s.own).finish = some n →
            c.finishAge = some (s.tick - (r.green + n)))

/-- A frame of a source has departed at the event that takes s to t: its stamp is the tick, its content that of t (R34, R40,
R42). That the values are those the whole event leaves is the model's choice (notes/assumptions/9.md). -/
def begun (s t : State) (x : Source) : Prop :=
  ∃ g, t.tx.phase = .sending ∧ t.tx.opportunity = none ∧ t.tx.inFlight = some g ∧ g.departure = s.tick ∧ g.source = x ∧
    (∃ c, t.tx.current = some c ∧ c.source = x) ∧ carries t x g.frame

/-- An event that makes work pending is itself a start opportunity: no work is pending, and the line is open (R34, R40). -/
def idleOpen (s : State) : Prop := s.workPending = false ∧ s.lineOpen = true ∧ s.tx.phase = .ready

/-- A running timer whose instant is reached (R2, R3). -/
def expired (s : State) (t : Timer) : Prop := ∃ i, t = some i ∧ interval s.tick i ≤ 0

/-- In PRESENT, the first low sample of a candidate stands at the frame-absent timer's own instant, and the next sample
reads low too, so the expiry may wait for the next tick (R4, R11; notes/assumptions/31.md). -/
def forming (s : State) : Prop :=
  s.frame.sampling = true ∧ s.frame.input = .present ∧ s.frame.level = some true ∧ s.frame.newest = some false ∧
    s.frame.previous ≠ some false ∧ s.frame.coming = false ∧ s.frame.absentTimer = some s.tick

/-- The last two samples read a level that is not the confirmed one (R4). -/
def agreeing (s : State) (high : Bool) : Prop :=
  s.frame.sampling = true ∧ s.frame.newest = some high ∧ s.frame.previous = some high ∧ s.frame.level ≠ some high

/-- What is due at a tick: the expiry of each running timer whose instant is reached (R3), load completion (R190), the level
that two samples confirm (R4), a start opportunity (R40), a command's completion 50 µs after its take (R166), and the
next step of a build as its 1 ms ends (R13). Nothing else is. -/
def comesDue (s : State) : Instr → Prop
  | .loadCompletion => s.cmd.unit = .loading ∧ expired s s.loader.loadTimer
  | .candidatePulse => agreeing s false ∧ s.frame.level = some true
  | .frameInputLevelConfirmed high => agreeing s high ∧ (s.frame.level = some true → high = true)
  | .frameAbsentTimerExpiry => expired s s.frame.absentTimer ∧ ¬ forming s
  | .buildEntryRead => ∃ b, s.image.build = some b ∧ 999 ≤ interval b.started s.tick ∧ b.next < 8
  | .buildCompletion => ∃ b, s.image.build = some b ∧ 999 ≤ interval b.started s.tick ∧ 8 ≤ b.next
  | .startOpportunity => (s.tx.phase = .ready ∨ s.tx.phase = .backoff) ∧ s.workPending = true ∧ s.lineOpen = true
  | .stuckWatchExpiry => expired s s.tx.stuckWatch
  | .callCadenceTimerExpiry => expired s s.tx.callTimer
  | .reportSpacingTimerExpiry => expired s s.tx.spacingTimer
  | .resendTimerExpiry => expired s s.tx.resendTimer
  | .presenceTimerExpiry p => expired s (s.entry p).presenceTimer
  | .lostTimerExpiry p => expired s (s.entry p).lostTimer
  | .silenceTimerExpiry => expired s s.peers.silenceTimer
  | .lobbyTimerExpiry => expired s s.race.lobbyTimer
  | .lockTimerExpiry => expired s s.race.lockTimer
  | .greenTimerExpiry => expired s s.race.greenTimer
  | .graceCloseTimerExpiry => expired s s.race.graceTimer
  | .limitCloseTimerExpiry => expired s s.race.limitTimer
  | .resultsCeilingTimerExpiry => expired s s.race.ceilingTimer
  | .blinkTimerExpiry => expired s s.lamp.blinkTimer
  | .lampStepTimerExpiry k => expired s (s.lamp.stepTimers.get k)
  | .lampGreenTimerExpiry => expired s s.lamp.greenTimer
  | .holdTimerExpiry => expired s s.lamp.holdTimer
  | .commandCompletion => ∃ r w at', s.cmd.unit = .busy r w at' ∧ 50 ≤ interval at' s.tick
  | _ => False

/-- What may come at a tick though it is not due: a command's completion and the next step of a build before their time
(R137, R166), and a frame-absent expiry that may wait (R11). Nothing else may. -/
def mayCome (s : State) : Instr → Prop
  | .frameAbsentTimerExpiry => expired s s.frame.absentTimer ∧ forming s
  | .buildEntryRead => ∃ b, s.image.build = some b ∧ interval b.started s.tick < 999 ∧ b.next < 8
  | .buildCompletion => ∃ b, s.image.build = some b ∧ interval b.started s.tick < 999 ∧ 8 ≤ b.next
  | .commandCompletion => ∃ r w at', s.cmd.unit = .busy r w at' ∧ interval at' s.tick < 50
  | _ => False

end Sys2Proof.Claims

open Sys2Proof Sys2Proof.Machine Sys2Proof.Claims

/-! ## The queue, time and the invariants -/

/-- The front command of the queue is run on the state with the queue's rest. -/
def Obligations.StepRunsFrontCommand : Prop :=
  ∀ (c : Instr) (rest : List Instr) (s : State), s.pending = c :: rest →
    step s = exec c { s with pending := rest }

/-- Every command completes in every state, and none touches the queue. The model's choice: a row that cannot occur in the
state changes nothing (notes/assumptions/4.md), and the queue of commands is the model's own (notes/assumptions/8.md). -/
def Obligations.EveryCommandCompletesAndLeavesQueue : Prop :=
  ∀ (c : Instr) (s : State), ∃ t, exec c s = .next t ∧ t.pending = s.pending

/-- With no command waiting, the tick advances only when nothing is due, and otherwise an event that is due or that
may come is put in front; an open line stays open as the tick advances, the frame-pulse input is sampled once a tick
after load completion, and a whole millisecond STUCK is counted. A frame-absent expiry that waits at a tick finds a
candidate due at the next, so that only a candidate, and no spike, holds it up (R4, R11). What is due and what may
come, and that nothing else is or may (R3, R4, R11, R13, R40, R166, R190). The model's choice: notes/assumptions/1.md,
2.md, 28.md, 31.md, 32.md and 37.md. -/
def Obligations.TimePassesOnEmptyQueue : Prop :=
  (∀ (s : State) (c : Instr), (c ∈ s.dueEvents ↔ comesDue s c) ∧ (c ∈ s.possibleEvents ↔ mayCome s c)) ∧
  ∀ s : State, s.pending = [] → ∃ t, step s = .next t ∧
    ((s.dueEvents = [] ∧
        t = { s with
          tick := s.tick + 1
          frame := t.frame
          tx := { s.tx with stuckCount := t.tx.stuckCount, opportunity := t.tx.opportunity }
          free := t.free } ∧
        (s.frame.sampling = true →
          t.frame = { s.frame with
            newest := some s.frame.coming, previous := s.frame.newest, coming := t.frame.coming }) ∧
        (s.frame.sampling = false → t.frame = { s.frame with coming := t.frame.coming }) ∧
        (expired s s.frame.absentTimer → t.frame.absentTimer = some s.tick ∧ .candidatePulse ∈ t.dueEvents) ∧
        (s.lineOpen = true → t.lineOpen = true) ∧ (s.lineOpen = false → t.tx.opportunity = s.tx.opportunity) ∧
        t.tx.stuckCount =
          if s.tx.phase = .stuck ∧ (s.tick + 1 - s.tx.stuckSince).toNat % 1000 = 0 then satInc s.tx.stuckCount
          else s.tx.stuckCount) ∨
      ∃ c, (c ∈ s.dueEvents ∨ c ∈ s.possibleEvents) ∧ t = { s with pending := [c], free := t.free })

/-- Every step keeps the bounds of the Event Queue (R181). -/
def Obligations.StepKeepsEventQueueBounded : Prop :=
  ∀ s t : State, s.events.bounded → step s = .next t → t.events.bounded

/-- Every step keeps the settings in their ranges (R189), Frame Capture coherent (R8 to R12), the image banks coherent
(R136) and the Command Unit's buffers and replies at 16 words or fewer (R164, R165). -/
def Obligations.StepKeepsBlocksCoherent : Prop :=
  (∀ s t : State, s.settings.inRange → step s = .next t → t.settings.inRange) ∧
  (∀ s t : State, s.frame.coherent → step s = .next t → t.frame.coherent) ∧
  (∀ s t : State, s.image.coherent → step s = .next t → t.image.coherent) ∧
  (∀ s t : State, s.cmd.coherent → step s = .next t → t.cmd.coherent)

/-- Every step keeps the Race Sequencer coherent (R77, R86, R98, R115). -/
def Obligations.StepKeepsRaceCoherent : Prop :=
  ∀ s t : State, s.race.coherent → step s = .next t → t.race.coherent

/-- Every step keeps the control queue at four frames or fewer, and a current frame whose source exists (R35, R46). -/
def Obligations.StepKeepsTransmitterWork : Prop :=
  ∀ s t : State, s.controlBounded → s.currentStands = true → step s = .next t →
    t.controlBounded ∧ t.currentStands = true

/-- The invariants hold at reset. -/
def Obligations.InvariantsHoldAtReset : Prop :=
  State.reset.events.bounded ∧ State.reset.settings.inRange ∧ State.reset.frame.coherent ∧
    State.reset.image.coherent ∧ State.reset.race.coherent ∧ State.reset.cmd.coherent ∧
    State.reset.controlBounded ∧ State.reset.currentStands = true

/-! ## Start-up -/

/-- HARDWARE_RESET: every block at its reset value, and the factory table (R189). The values the manual does not give are
the model's choice (notes/assumptions/6.md, 7.md), and so is that what the frame-pulse pin will read next
(notes/assumptions/37.md) and the queue of commands (notes/assumptions/8.md) stay as they were. -/
def Obligations.HardwareResetValues : Prop :=
  ∀ (station : Station) (rate : Fin 4) (low : Bool) (memory : List Byte) (s : State),
    ∃ t, exec (.hardwareReset station rate low memory) s = .next t ∧
      Settings.factory = ⟨100, 500, 512, 2048, 0b1100, 4096, 3, 16, 20, 2, 5000, 600, 20, 0,
        ⟨⟨3000, 0b0001⟩, ⟨2000, 0b0011⟩, ⟨1000, 0b0111⟩, ⟨0, 0b1000⟩⟩, 2000, ⟨.blink, .blink, .blink, .blink⟩,
        ⟨.lamp, .lamp, .lamp, .lamp⟩⟩ ∧
      t.tick = 0 ∧ t.straps = ⟨station, rate, low⟩ ∧ t.loader = ⟨memory, some 5000, Settings.factory, false⟩ ∧
      t.frame = ⟨false, none, none, none, .absent, 0, [], none, none, none, s.frame.coming⟩ ∧
      t.rx = ⟨.notStarted, false, none, false, 0, 0⟩ ∧
      (t.tx.phase = .ready ∧ t.tx.queue = [] ∧ slotEmpty t.tx ∧ t.tx.callTimer = none ∧
        t.tx.lastSender = station ∧ t.tx.opportunity = none ∧ t.tx.current = none ∧ t.tx.inFlight = none ∧
        t.tx.sequence = 0 ∧ t.tx.stuckWatch = none ∧ t.tx.framesSent = 0 ∧ t.tx.collisions = 0 ∧
        t.tx.drops = 0 ∧ t.tx.backoffSeed = station ∧ t.tx.backoffPlace = 0) ∧
      (∀ p, cleared (t.entry p)) ∧
      (t.peers.silenceTimer = none ∧ t.peers.heard = false ∧ t.peers.silent = false) ∧
      (t.race.own = .offline ∧ t.race.entry = none ∧ t.race.lobbyTimer = none ∧ t.race.proposal = .none ∧
        raceless t.race) ∧
      t.image = ⟨.free, .free, .free, none⟩ ∧
      (dark t.lamp ∧ (∀ p, t.pinLevel p = false ∧ t.lamp.plain.get p = false) ∧ t.lamp.blinkTimer = none) ∧
      (t.cmd.unit = .loading ∧ t.cmd.arguments = List.replicate 16 0 ∧ t.cmd.reply = List.replicate 16 0 ∧
        t.cmd.lastResult = .ok ∧ t.cmd.replyLength = 0 ∧ t.cmd.lost = false) ∧
      t.events = ⟨[], false⟩ ∧ t.interruptAsserted = false ∧ t.pending = s.pending

/-- LOAD_COMPLETION: the settings from the memory or the factory table, with its event, and the blocks that start; and
the settings the memory's bytes give, each brought into its range, multi-byte fields most significant byte first (R186,
R189). -/
def Obligations.LoadCompletionStartsPart : Prop :=
  (∀ (s : State) (i : Instant), s.cmd.unit = .loading → s.loader.loadTimer = some i → reached s.tick i = true →
    s.events.records = [] →
    ∃ t, exec .loadCompletion s = .next t ∧
      t = { s with
        loader := t.loader, cmd := { s.cmd with unit := .idle }, frame := { s.frame with sampling := true }
        rx := { s.rx with monitor := .busy }, tx := t.tx, events := t.events
        lamp := { s.lamp with blinkPhase := 0, blinkTimer := some (s.tick + 62500) } } ∧
      t.tx.stuckWatch = some (s.tick + 20000) ∧
      (s.loader.memory.length < 32 →
        t.loader = ⟨s.loader.memory, none, Settings.factory, true⟩ ∧
          t.events.records = [⟨.configDefaulted, s.own, 1, i⟩]) ∧
      (32 ≤ s.loader.memory.length → crc8 (s.loader.memory.take 31) ≠ s.loader.memory.getD 31 0 →
        t.loader = ⟨s.loader.memory, none, Settings.factory, true⟩ ∧
          t.events.records = [⟨.configDefaulted, s.own, 2, i⟩]) ∧
      (32 ≤ s.loader.memory.length → crc8 (s.loader.memory.take 31) = s.loader.memory.getD 31 0 →
        t.loader = ⟨s.loader.memory, none, settingsOfMemory s.loader.memory, false⟩ ∧ t.events.records = [])) ∧
  ∀ (m : List Byte) (b : Nat → Nat) (t : Settings), (∀ n, b n = (m.getD n 0).toNat) → t = settingsOfMemory m →
    (t.horizon = min (max (b 0) 16) 250 ∧ t.lostTimeout = min (max (b 1 * 256 + b 2) 100) 2000 ∧
      t.th0 = max (b 3 * 256 + b 4) 1 ∧ t.th1 = max (b 5 * 256 + b 6) 1 ∧
      (∀ c, c < 4 → t.surfaceMap.getLsbD c = (m.getD 7 0).getLsbD c) ∧
      t.blendShift = min (max (b 7 / 16 % 8) 1) 6 ∧
      t.headingThreshold = min (max (b 8 * 256 + b 9) 1) 32768 ∧ t.reportSpacing = min (max (b 10) 4) 50 ∧
      t.lobbyWindow = min (max (b 11) 5) 60 ∧ t.minField = min (max (b 12) 1) 8 ∧
      t.startLead = min (max (b 13 * 256 + b 14) 3000) 10000 ∧
      t.raceLimit = min (max (b 15 * 256 + b 16) 60) 1800 ∧ t.finishGrace = min (max (b 17) 5) 60 ∧
      t.eventMask.toNat = b 18 * 65536 + b 19 * 256 + b 20 ∧ t.greenHold = min (b 27 * 256 + b 28) 5000) ∧
    (∀ k : Pin, (t.lampSteps.get k).offset = min (b (21 + k.val) * 50) 10000 ∧
      failSafeFrom (pinCode (b 29) k) (t.failSafe.get k) ∧ functionFrom (pinCode (b 30) k) (t.functions.get k)) ∧
    (t.lampSteps.get 0).pattern.toNat = b 25 % 16 ∧ (t.lampSteps.get 1).pattern.toNat = b 25 / 16 ∧
    (t.lampSteps.get 2).pattern.toNat = b 26 % 16 ∧ (t.lampSteps.get 3).pattern.toNat = b 26 / 16

/-! ## Frame Capture -/

/-- CANDIDATE_PULSE: in PRESENT ignored within 4,000 µs of the last accepted capture tick, else accepted (R6, R7); in
ABSENT accepted, with FRAME_RETURNED (R12). A pulse captured at the instant of the frame-absent expiry and taken first is
accepted with a period of exactly 100,000 µs, and the expiry does not happen (R11): at that instant, with the first low
sample taken and the next low too, the expiry need not come before the next tick (notes/assumptions/31.md). Where the next
sample is high, the low one was a spike, and the expiry is due (R3, R4). That the row sets the last two
samples is the model's choice (notes/assumptions/37.md). -/
def Obligations.CandidatePulseAccepted : Prop :=
  (∀ (s : State) (c : Instant), s.currentStands = true → s.frame.sampling = true → s.frame.level = some true →
     s.frame.input = .present → s.frame.lastCapture = some c →
     (interval c (s.tick - 1) < 4000 →
       exec .candidatePulse s = .next { s with
         frame := { s.frame with level := some false, newest := some false, previous := some false } }) ∧
     (4000 ≤ interval c (s.tick - 1) →
       ∃ t, exec .candidatePulse s = .next t ∧
         t = { s with
           frame := { s.frame with
             level := some false
             newest := some false
             previous := some false
             counter := s.frame.counter + 1
             history :=
               (if s.frame.history.length < 8 then s.frame.history
                 else s.frame.history.drop (s.frame.history.length - 7)) ++
                 [⟨s.frame.counter + 1, s.tick - 1⟩]
             period := s.frame.history.getLast?.map fun e => s.tick - 1 - e.capture
             absentTimer := some (s.tick - 1 + 100000)
             lastCapture := some (s.tick - 1) }
           peers := t.peers, image := t.image } ∧
         t.peers = { s.peers with entries := t.peers.entries } ∧ (∀ p, p ≠ s.own → t.entry p = s.entry p) ∧
         t.entry s.own = { s.entry s.own with
           car := (s.entry s.own).car.map fun r =>
             { r with heldFrame := r.heldFrame.filter fun n => (t.lookupFrame n).isSome } })) ∧
  (∀ s : State, s.currentStands = true → s.frame.sampling = true → s.frame.level = some true →
     s.frame.input = .absent →
     ∃ t, exec .candidatePulse s = .next t ∧
       t = { s with
         frame := { s.frame with
           level := some false
           newest := some false
           previous := some false
           input := .present
           counter := s.frame.counter + 1
           history := [⟨s.frame.counter + 1, s.tick - 1⟩]
           period := none
           absentTimer := some (s.tick - 1 + 100000)
           lastCapture := some (s.tick - 1) }
         peers := t.peers, image := t.image, events := t.events } ∧
       t.peers = { s.peers with entries := t.peers.entries } ∧ (∀ p, p ≠ s.own → t.entry p = s.entry p) ∧
       t.events.enable = s.events.enable ∧
       t.events.records = posted s [⟨.frameReturned, s.own, s.frame.counter + 1, s.tick - 1⟩]) ∧
  ∀ (s : State) (c : Instant), s.frame.sampling = true → s.frame.level = some true → s.frame.input = .present →
    s.frame.lastCapture = some c → s.frame.absentTimer = some (c + 100000) →
    (s.tick = c + 100000 → s.frame.newest = some false → s.frame.previous = some true →
      (s.frame.coming = false →
        Instr.frameAbsentTimerExpiry ∉ s.dueEvents ∧ Instr.frameAbsentTimerExpiry ∈ s.possibleEvents) ∧
      (s.frame.coming = true →
        Instr.frameAbsentTimerExpiry ∈ s.dueEvents ∧ Instr.frameAbsentTimerExpiry ∉ s.possibleEvents)) ∧
    (∀ e, s.tick = c + 100001 → s.frame.history.getLast? = some e → e.capture = c →
      Instr.frameAbsentTimerExpiry ∈ s.dueEvents ∧
      ∃ t, exec .candidatePulse s = .next t ∧ t.frame.period = some 100000 ∧ t.frame.input = .present ∧
        t.frame.absentTimer = some (s.tick - 1 + 100000) ∧ Instr.frameAbsentTimerExpiry ∉ t.dueEvents)

/-- An accepted pulse starts a build in the lowest FREE bank, unless the own race state is OFFLINE (R13, R137, R141). -/
def Obligations.AcceptedPulseStartsBuild : Prop :=
  ∀ s : State, s.frame.sampling = true → s.frame.level = some true →
    (s.frame.input = .absent ∨
      ∃ c, s.frame.input = .present ∧ s.frame.lastCapture = some c ∧ 4000 ≤ interval c (s.tick - 1)) →
    ∃ t, exec .candidatePulse s = .next t ∧ (s.race.own = .offline → t.image = s.image) ∧
      (s.race.own ≠ .offline → s.image.build = none →
        ∃ i : Image,
          (s.image.bank0 = .free → t.image = ⟨.filling i, s.image.bank1, s.image.bank2, some ⟨0, s.tick⟩⟩) ∧
          (s.image.bank0 ≠ .free → s.image.bank1 = .free →
            t.image = ⟨s.image.bank0, .filling i, s.image.bank2, some ⟨0, s.tick⟩⟩) ∧
          (s.image.bank0 ≠ .free → s.image.bank1 ≠ .free → s.image.bank2 = .free →
            t.image = ⟨s.image.bank0, s.image.bank1, .filling i, some ⟨0, s.tick⟩⟩) ∧
          i.sequence = s.frame.counter + 1 ∧ i.capture = s.tick - 1 ∧ i.period = t.frame.period.getD 0 ∧
          i.own = s.race.own ∧
          (s.race.own = .attract ∨ s.race.own = .entered → i.mask = 0 ∧ i.raceTime = 0 ∧ i.timeToGreen = 0) ∧
          (∀ r, s.race.record = some r →
            i.mask = (if s.race.own.isRace then r.mask else 0) ∧
            i.raceTime = (match s.race.own with
              | .racing => i.capture - r.green
              | .finished => i.capture - r.green
              | .results => if s.race.ceilingMark then 2000000000 else i.capture - r.green
              | .offline | .attract | .entered | .countdown => 0) ∧
            i.timeToGreen = (if s.race.own = .countdown ∧ 0 < interval i.capture r.green then
              BitVec.ofNat 16 ((interval i.capture r.green).toNat / 1000) else 0)))

/-- FRAME_ABSENT_TIMER_EXPIRY (R11, R172), and FRAME_INPUT_LEVEL_CONFIRMED: the first confirmation sets the level, and
a change to high re-arms it (R4). A low level confirmed after a high one is a candidate under this row too (R4), by the
model's choice (notes/assumptions/38.md); so is that the row sets the last two samples (notes/assumptions/37.md). -/
def Obligations.FrameInputLostAndConfirmed : Prop :=
  (∀ (s : State) (i : Instant), s.currentStands = true → s.frame.absentTimer = some i → reached s.tick i = true →
     ∃ t, exec .frameAbsentTimerExpiry s = .next t ∧
       t = { s with
         frame := { s.frame with input := .absent, history := [], period := none, absentTimer := none }
         peers := t.peers, events := t.events } ∧
       t.peers = { s.peers with entries := t.peers.entries } ∧ (∀ p, p ≠ s.own → t.entry p = s.entry p) ∧
       t.entry s.own = { s.entry s.own with
         car := (s.entry s.own).car.map fun r => { r with heldFrame := none } } ∧
       t.events.enable = s.events.enable ∧
       t.events.records = posted s [⟨.frameLost, s.own, s.frame.counter, i⟩]) ∧
  (∀ (s : State) (high : Bool), s.currentStands = true → s.frame.sampling = true →
     (s.frame.level = none →
       exec (.frameInputLevelConfirmed high) s = .next { s with
         frame := { s.frame with level := some high, newest := some high, previous := some high } }) ∧
     (s.frame.level = some false →
       exec (.frameInputLevelConfirmed true) s = .next { s with
         frame := { s.frame with level := some true, newest := some true, previous := some true } }) ∧
     (s.frame.level = some true →
       exec (.frameInputLevelConfirmed false) s = exec .candidatePulse s))

/-! ## Images -/

/-- BUILD_ENTRY_READ: the next entry's record, by how the entry is shown, and what becomes of the entry's display: the
values shown become the last displayed ones, SNAPPED is cleared, and the four corrections of an entry carried forward
decay (R129 to R132, R138, R139, R142). The banks that are not FILLING stay as they were (R136). That the live rank is 0
until completion is the model's choice (notes/assumptions/19.md). -/
def Obligations.BuildReadsNextEntry : Prop :=
  ∀ (s : State) (b : Build) (i : Image) (p : Station), s.currentStands = true → s.image.build = some b →
    s.image.filling = some i → b.next = p.val →
    ∃ t j r, exec .buildEntryRead s = .next t ∧ t = { s with peers := t.peers, image := t.image } ∧
      t.image.build = some ⟨p.val + 1, b.started⟩ ∧ t.image.filling = some j ∧
      t.image.banks = s.image.banks.map (fun k =>
        match k with
        | .filling _ => .filling j
        | .ready i => .ready i
        | .opened i => .opened i
        | .free => .free) ∧
      j = { i with records := j.records } ∧ j.records.get p = r ∧ (∀ q, q ≠ p → j.records.get q = i.records.get q) ∧
      t.peers = { s.peers with entries := t.peers.entries } ∧ (∀ q, q ≠ p → t.entry q = s.entry q) ∧
      t.entry p = { s.entry p with display := (t.entry p).display } ∧
      (r.own = decide (p = s.own) ∧ r.quality = (s.entry p).window.count true ∧
        r.state = (if p = s.own then ownCode s.race.own else peerCode (s.entry p).state) ∧
        r.finishValid = (s.entry p).finish.isSome ∧ r.finish = (s.entry p).finish.getD 0 ∧ r.rank = 0 ∧
        r.laps = (if p = s.own then BitVec.ofNat 8 s.race.lapCount
          else (s.entry p).car.elim 0 CarRecord.laps)) ∧
      ((s.entry p).car = none →
        r.noPosition = true ∧ r.stale = false ∧ r.snapped = false ∧ r.held = false ∧
          r.x = 0 ∧ r.y = 0 ∧ r.z = 0 ∧ r.h = 0 ∧ r.g = 0 ∧
          ((s.entry p).display.snapped = false → (t.entry p).display = (s.entry p).display)) ∧
      (∀ c, (s.entry p).car = some c → p = s.own ∨ (s.entry p).state = .lost ∨ (s.entry p).state = .retired →
        (t.entry p).display = { (s.entry p).display with
          x := r.x, y := r.y, z := r.z, h := r.h, g := r.g, snapped := false, shown := true }) ∧
      (∀ c, (s.entry p).car = some c → p = s.own →
        r.noPosition = false ∧ r.stale = false ∧ r.snapped = false ∧ r.held = false ∧
          r.x = c.car.x ∧ r.y = c.car.y ∧ r.z = c.car.z ∧ r.h = c.car.h ∧ r.g = c.car.g) ∧
      (∀ c, (s.entry p).car = some c → p ≠ s.own → (s.entry p).state = .lost ∨ (s.entry p).state = .retired →
        r.noPosition = false ∧ r.stale = false ∧ r.held = true ∧ r.snapped = (s.entry p).display.snapped ∧
          (if (s.entry p).display.shown then
            r.x = (s.entry p).display.x ∧ r.y = (s.entry p).display.y ∧ r.z = (s.entry p).display.z ∧
              r.h = (s.entry p).display.h ∧ r.g = (s.entry p).display.g
          else r.x = c.car.x ∧ r.y = c.car.y ∧ r.z = c.car.z ∧ r.h = c.car.h ∧ r.g = c.car.g)) ∧
      (∀ c, (s.entry p).car = some c → p ≠ s.own → (s.entry p).state ≠ .lost → (s.entry p).state ≠ .retired →
        r.noPosition = false ∧ r.held = false ∧ r.snapped = (s.entry p).display.snapped ∧
          r.stale = decide ((s.settings.horizon * 1000 : Nat) < interval c.car.sample i.capture) ∧
          r.x = saturate24 ((c.car.carry s.settings i.capture).x.toInt + (s.entry p).display.cx) ∧
          r.y = saturate24 ((c.car.carry s.settings i.capture).y.toInt + (s.entry p).display.cy) ∧
          r.z = saturate24 ((c.car.carry s.settings i.capture).z.toInt + (s.entry p).display.cz) ∧
          r.h = (c.car.carry s.settings i.capture).h + (s.entry p).display.ch ∧
          r.g = (c.car.carry s.settings i.capture).g ∧
          (t.entry p).display =
            ⟨decay s.settings.blendShift (s.entry p).display.cx, decay s.settings.blendShift (s.entry p).display.cy,
              decay s.settings.blendShift (s.entry p).display.cz,
              BitVec.ofInt 16 (decay s.settings.blendShift (s.entry p).display.ch.toInt),
              r.x, r.y, r.z, r.h, r.g, false, true⟩)

/-- Decay: a correction of 0 stays 0; another moves toward 0 by max(1, |C| / 2^k) rounded down, keeps its sign or
becomes 0, and so shrinks (R130). -/
def Obligations.DecayMovesTowardZero : Prop :=
  ∀ (k : Nat) (c : Int), 1 ≤ k →
    decay k 0 = 0 ∧
    (c ≠ 0 → ((decay k c).natAbs = c.natAbs - max 1 (c.natAbs / 2 ^ k)) ∧ (decay k c).natAbs < c.natAbs ∧
      0 ≤ decay k c * c)

/-- A record carried forward to a target instant (R121 to R123): the interval is clamped to 0 … the horizon, and the
record is stale beyond it; each value takes the product of its rate and the interval over 32,768, to the nearest
integer, halves upward; positions and progress saturate, the heading wraps. -/
def Obligations.CarryingForward : Prop :=
  ∀ (t : Settings) (c : CarValues) (f : Instant),
    ∃ dt : Nat, dt ≤ t.horizon * 1000 ∧
      (interval c.sample f ≤ 0 → dt = 0) ∧
      (0 ≤ interval c.sample f → interval c.sample f ≤ (t.horizon * 1000 : Nat) → (dt : Int) = interval c.sample f) ∧
      ((t.horizon * 1000 : Nat) < interval c.sample f → dt = t.horizon * 1000) ∧
      staleAt t c.sample f = decide ((t.horizon * 1000 : Nat) < interval c.sample f) ∧
      (∀ n : Int, nearest (c.vx.toInt * dt) n →
        (c.carry t f).x.toInt = max (-8388608) (min 8388607 (c.x.toInt + n))) ∧
      (∀ n : Int, nearest (c.vy.toInt * dt) n →
        (c.carry t f).y.toInt = max (-8388608) (min 8388607 (c.y.toInt + n))) ∧
      (∀ n : Int, nearest (c.vz.toInt * dt) n →
        (c.carry t f).z.toInt = max (-8388608) (min 8388607 (c.z.toInt + n))) ∧
      (∀ n : Int, nearest (c.w.toInt * dt) n → (c.carry t f).h = c.h + BitVec.ofInt 16 n) ∧
      (∀ n : Int, nearest (c.q.toInt * dt) n →
        ((c.carry t f).g.toNat : Int) = max 0 (min 4294967295 (c.g.toNat + n)))

/-- BUILD_COMPLETION: the bank is READY and an older READY bank FREE (R140), with the live rank in the order of R143 and
the present mask of R141. -/
def Obligations.BuildCompletionRanksImage : Prop :=
  (∀ (s : State) (b : Build), s.currentStands = true → s.image.build = some b → 8 ≤ b.next →
     ∃ t, exec .buildCompletion s = .next t ∧ t = { s with image := t.image } ∧ t.image.build = none ∧
       t.image.banks = s.image.banks.map fun k =>
         match k with
         | .filling i => .ready i.complete
         | .ready _ => .free
         | .opened i => .opened i
         | .free => .free) ∧
  (∀ i : Image,
     i.complete = { i with
       present := i.complete.present, ranking := i.complete.ranking, records := i.complete.records } ∧
     (∀ p, i.complete.records.get p = { i.records.get p with rank := (i.complete.records.get p).rank }) ∧
     i.complete.ranking.Pairwise (fun a b => ranksLive a b (i.records.get a) (i.records.get b)) ∧
     (∀ p, p ∈ i.complete.ranking ↔ inMask i.mask p = true) ∧
     (∀ p, inMask i.mask p = false → (i.complete.records.get p).rank = 0) ∧
     (∀ p k, i.complete.ranking[k]? = some p → (i.complete.records.get p).rank = k + 1) ∧
     (∀ p, inMask i.complete.present p = (!(i.records.get p).own && decide ((i.records.get p).state ≠ 0))))

/-- OPEN_IMAGE: a READY bank is OPEN and the old OPEN bank FREE, or NO_NEWER (R144). -/
def Obligations.OpenImageOpensReady : Prop :=
  ∀ s : State, s.currentStands = true → s.cmd.unit = .idle →
    (∀ i, s.image.ready = some i →
      ∃ t, exec .openImage s = .next t ∧ t = { s with image := t.image, cmd := taken s .ok [i.sequence, 1] } ∧
        t.image.build = s.image.build ∧ t.image.opened = some i ∧
        t.image.banks = s.image.banks.map fun k =>
          match k with
          | .ready i => .opened i
          | .opened _ => .free
          | .filling i => .filling i
          | .free => .free) ∧
    (s.image.ready = none → ∀ i, s.image.opened = some i →
      exec .openImage s = .next { s with cmd := taken s .noNewer [i.sequence, 1] }) ∧
    (s.image.ready = none → s.image.opened = none →
      exec .openImage s = .next { s with cmd := taken s .noNewer [0, 0] })

/-- The image window shows the OPEN bank word by word in the layout of R149: the 16 words of the header, and the 14 of each
station record; it reads 0 with no bank OPEN (R146). -/
def Obligations.ImageWindowLayout : Prop :=
  (∀ (s : State) (w : Nat), w < 128 → s.image.opened = none → s.portRead (BitVec.ofNat 9 (0x100 + w)) = 0) ∧
  ∀ (s : State) (i : Image), s.image.opened = some i →
    s.portRead 0x100 = i.sequence ∧ joinPair s.straps.lowFirst (s.portRead 0x101) (s.portRead 0x102) = i.capture ∧
      joinPair s.straps.lowFirst (s.portRead 0x103) (s.portRead 0x104) = i.period ∧
      s.portRead 0x105 = word (ownCode i.own) ∧
      joinPair s.straps.lowFirst (s.portRead 0x106) (s.portRead 0x107) = i.raceTime ∧
      s.portRead 0x108 = i.timeToGreen ∧ s.portRead 0x109 = i.present ++ i.mask ∧
      (∀ k, k < 4 → s.portRead (BitVec.ofNat 9 (0x10A + k)) =
        BitVec.ofNat 16 (rankShown i (2 * k) + 256 * rankShown i (2 * k + 1))) ∧
      s.portRead 0x10E = word i.ranking.length ∧ s.portRead 0x10F = 1 ∧
      ∀ (p : Station) (r : StationRecord) (w : Nat → Word), r = i.records.get p →
        (∀ n, w n = s.portRead (BitVec.ofNat 9 (0x110 + 14 * p.val + n))) →
        w 0 = BitVec.ofNat 16 (r.state + 256 * r.quality) ∧
        ((w 1).getLsbD 0 = r.own ∧ (w 1).getLsbD 1 = r.stale ∧ (w 1).getLsbD 2 = r.snapped ∧
          (w 1).getLsbD 3 = r.held ∧ (w 1).getLsbD 4 = r.noPosition ∧ (w 1).getLsbD 5 = r.finishValid ∧
          ∀ n, 6 ≤ n → (w 1).getLsbD n = false) ∧
        (joinPair s.straps.lowFirst (w 2) (w 3)).toInt = r.x.toInt ∧
        (joinPair s.straps.lowFirst (w 4) (w 5)).toInt = r.y.toInt ∧
        (joinPair s.straps.lowFirst (w 6) (w 7)).toInt = r.z.toInt ∧ w 8 = r.h ∧
        joinPair s.straps.lowFirst (w 9) (w 10) = r.g ∧ w 11 = BitVec.ofNat 16 (r.laps.toNat + 256 * r.rank) ∧
        joinPair s.straps.lowFirst (w 12) (w 13) = r.finish

/-! ## The cabinet bus: activity and checks -/

/-- LINE_BUSY and START_DELIMITER_RECOGNISED (R19 to R21, R39, R48). -/
def Obligations.LineBusyAndStartDelimiter : Prop :=
  ∀ s : State, s.currentStands = true →
    (s.rx.monitor = .idle →
      exec .lineBusy s = .next { s with
        rx := { s.rx with monitor := .busy, awaiting := true, arrival := none, remains := false }
        tx := { s.tx with
          opportunity := none
          stuckWatch := if s.tx.phase = .disabled then s.tx.stuckWatch else some (s.tick + 20000) } }) ∧
    (s.rx.monitor = .busy → s.rx.awaiting = true →
      exec .startDelimiterRecognised s = .next { s with
        rx := { s.rx with awaiting := false, arrival := some s.tick } }) ∧
    (s.rx.awaiting = false → exec .startDelimiterRecognised s = .next s)

/-- IDLE_GAP: the opportunity instant stands d slots ahead, in BACKOFF d + b, with d = (own - last_sender - 1) modulo
8, and the stuck watch stops (R19, R39, R48); in STUCK, BUS_CLEAR is posted and STUCK is left, with no backoff, and a
CALL that this makes due departs at once, at the end of the event (notes/assumptions/9.md), where d is 0 (R34, R37,
R48). That IDLE_GAP itself discards and counts a frame being assembled (notes/assumptions/12.md), and ends an own
frame still read back across a RESTART uncounted (notes/assumptions/22.md), and counts none while SENDING
(notes/assumptions/39.md), is the model's choice. The durations of a bit rate (R17): the bit period in ns, the others
in µs. -/
def Obligations.IdleGapSetsOpportunity : Prop :=
  (∀ s : State, s.currentStands = true → s.rx.monitor = .busy → s.tx.phase ≠ .stuck →
     ∃ t, exec .idleGap s = .next t ∧
       t = { s with
         rx := { s.rx with
           monitor := .idle, awaiting := false, arrival := none
           crcErrors :=
             if s.rx.arrival.isSome ∧ s.tx.phase ≠ .sending ∧ s.tx.crossing = false ∧ s.rx.remains = false
             then satInc s.rx.crcErrors else s.rx.crcErrors }
         tx := { s.tx with stuckWatch := none, crossing := false, opportunity := t.tx.opportunity } } ∧
       (s.tx.phase ≠ .backoff →
         t.tx.opportunity = some (s.tick + BitVec.ofNat 32
           ((s.own.val + 7 - s.tx.lastSender.val) % 8 * (64 / 2 ^ s.straps.rate.val)))) ∧
       (∀ c, s.tx.phase = .backoff → s.tx.current = some c →
         t.tx.opportunity = some (s.tick + BitVec.ofNat 32
           (((s.own.val + 7 - s.tx.lastSender.val) % 8 + c.backoff) * (64 / 2 ^ s.straps.rate.val))))) ∧
  (∀ s : State, s.rx.monitor = .busy → s.tx.phase = .stuck →
     ∃ t, exec .idleGap s = .next t ∧
       t.rx = { s.rx with
         monitor := .idle, awaiting := false, arrival := none
         crcErrors :=
           if s.rx.arrival.isSome ∧ s.tx.crossing = false ∧ s.rx.remains = false then satInc s.rx.crcErrors
           else s.rx.crcErrors } ∧
       t.tx.stuckWatch = none ∧ t.tx.queue = s.tx.queue ∧ t.tx.slot.state = s.tx.slot.state ∧
       (s.workPending = false → (s.race.own = .attract ∨ s.race.own = .entered) → s.tx.callTimer = none →
         (s.own.val + 7 - s.tx.lastSender.val) % 8 = 0 → begun s t .call) ∧
       (s.workPending = true ∨ (s.race.own ≠ .attract ∧ s.race.own ≠ .entered) ∨ s.tx.callTimer ≠ none ∨
           (s.own.val + 7 - s.tx.lastSender.val) % 8 ≠ 0 →
         t.tx.phase = .ready ∧ t.tx.opportunity = some (s.tick + BitVec.ofNat 32
           ((s.own.val + 7 - s.tx.lastSender.val) % 8 * (64 / 2 ^ s.straps.rate.val))) ∧
         (s.currentStands = true → t.tx = { s.tx with
           phase := .ready, stuckWatch := none, crossing := false, opportunity := t.tx.opportunity
           current := s.tx.current.map fun c => { c with backoff := 0 } })) ∧
       t.events.records = posted s [⟨.busClear, s.own, s.tx.stuckCount, s.tick⟩] ∧
       t = { s with rx := t.rx, tx := t.tx, events := t.events }) ∧
  ∀ p : Straps, p.bitPeriod = 4000 / 2 ^ p.rate.val ∧ p.receiveDelay = BitVec.ofNat 32 (8 / 2 ^ p.rate.val) ∧
    p.idleGap = 48 / 2 ^ p.rate.val ∧ p.slot = 64 / 2 ^ p.rate.val

/-- The four checks of a completed frame in their order, and what passes them is valid (R24), each field read at its offset
(R22, R28 to R33); a frame that fails one, and a frame broken off, is discarded and counted, and nothing else happens
(R20, R24, R52). -/
def Obligations.FrameChecksInOrder : Prop :=
  (∀ b : List Byte,
    (b.length < 5 ∨ b.length ≠ 5 + (b.getD 2 0).toNat → checkFrame b = .discarded .broken) ∧
    (5 ≤ b.length → b.length = 5 + (b.getD 2 0).toNat →
      (crc16 (b.take (b.length - 2)) ≠ b.getD (b.length - 2) 0 ++ b.getD (b.length - 1) 0 →
        checkFrame b = .discarded .crc) ∧
      (crc16 (b.take (b.length - 2)) = b.getD (b.length - 2) 0 ++ b.getD (b.length - 1) 0 →
        ((b.getD 0 0).toNat / 16 = 0 ∨ 5 ≤ (b.getD 0 0).toNat / 16 → checkFrame b = .discarded .kind) ∧
        ∀ n : Nat,
          ((b.getD 0 0).toNat / 16 = 1 ∧ n = 4 ∨ (b.getD 0 0).toNat / 16 = 2 ∧ n = 7 ∨
            (b.getD 0 0).toNat / 16 = 3 ∧ n = (if (b.getD 31 0).getLsbD 2 then 34 else 30) ∨
            (b.getD 0 0).toNat / 16 = 4 ∧ n = 1) →
          ((b.getD 2 0).toNat ≠ n → checkFrame b = .discarded .length) ∧
          ((b.getD 2 0).toNat = n → ∃ f, checkFrame b = .valid f)))) ∧
  (∀ (b : List Byte) (f : BusFrame) (two : Nat → Word) (three : Nat → BitVec 24) (four : Nat → BitVec 32),
    (∀ i, two i = b.getD i 0 ++ b.getD (i + 1) 0) → (∀ i, three i = b.getD i 0 ++ two (i + 1)) →
    (∀ i, four i = two i ++ two (i + 2)) → checkFrame b = .valid f →
    frameCode f.payload = (b.getD 0 0).toNat / 16 ∧ f.sender.val = (b.getD 0 0).toNat / 2 % 8 ∧
      f.raceFlag = (b.getD 0 0).getLsbD 0 ∧ f.sequence = b.getD 1 0 ∧
      (∀ entered race, f.payload = .call entered race →
        entered = decide (b.getD 3 0 = 1) ∧ race = ⟨two 4, b.getD 6 0⟩) ∧
      (∀ q, f.payload = .start q → q = ⟨three 3, b.getD 6 0, ⟨two 7, b.getD 9 0⟩⟩) ∧
      (∀ reason, f.payload = .withdraw reason → reason = b.getD 3 0) ∧
      ∀ c, f.payload = .car c →
        surfaceCode c.surface = (b.getD 31 0).toNat % 4 ∧
        c = ⟨three 3, three 6, three 9, three 12, takenRate (two 15), takenRate (two 17), takenRate (two 19), two 21,
          takenRate (two 23), four 25, takenRate (two 29), c.surface, (b.getD 31 0).getLsbD 3,
          (b.getD 31 0).getLsbD 4, b.getD 32 0, if (b.getD 31 0).getLsbD 2 then some (four 33) else none⟩) ∧
  ∀ (s : State) (a : Instant), s.currentStands = true → assembling s a →
    (s.tx.phase ≠ .sending → exec .frameBroken s = .next { s with rx := afterDiscard s.rx }) ∧
    ∀ (bytes : List Byte) (why : Discard), checkFrame bytes = .discarded why →
      exec (.frameCompletion bytes) s = .next { s with rx := afterDiscard s.rx }

/-- Every frame this part can send is read back by a receiver as it was sent (R22 to R33). -/
def Obligations.FrameBytesReadBack : Prop :=
  ∀ f : BusFrame, sendable f.payload → checkFrame f.bytes = .valid f

/-- A valid frame from another station in OFFLINE counts and sets last_sender, nothing else (R25, R52); one with the own
number latches DISABLED and takes the part OFFLINE without a WITHDRAW, unless the Transmitter is SENDING: it is then the
own readback, whose row is READ_BACK_WHOLE, and this row changes nothing (R43, R49; notes/assumptions/39.md). FRAME_BROKEN
while SENDING changes nothing either, by the model's choice: the frame is then the own one, whose break is a collision
(notes/assumptions/39.md). -/
def Obligations.FramesNotForTheTable : Prop :=
  (∀ (s : State) (a : Instant) (bytes : List Byte) (f : BusFrame), s.currentStands = true → assembling s a →
     checkFrame bytes = .valid f → f.sender ≠ s.own → s.race.own = .offline →
     exec (.frameCompletion bytes) s = .next { s with
       rx := afterGood s.rx, tx := { s.tx with lastSender := f.sender } }) ∧
  (∀ (s : State) (a : Instant) (bytes : List Byte) (f : BusFrame), assembling s a →
     checkFrame bytes = .valid f → f.sender = s.own →
     (s.tx.phase ≠ .disabled → s.tx.phase ≠ .sending →
       ∃ t, exec (.frameCompletion bytes) s = .next t ∧
         t = { s with
           rx := afterGood s.rx, tx := t.tx, peers := t.peers, race := t.race, lamp := t.lamp
           events := t.events } ∧
         t.tx.phase = .disabled ∧ t.tx.queue = [] ∧ slotEmpty t.tx ∧ t.tx.current = none ∧ t.tx.callTimer = none ∧
         t.tx.stuckWatch = none ∧ t.tx.lastSender = f.sender ∧ t.race.own = .offline ∧
         t.tx.sequence = s.tx.sequence ∧ t.tx.drops = s.tx.drops ∧
         (s.race.own ≠ .offline →
           raceless t.race ∧ t.race.entry = none ∧ (∀ p, cleared (t.entry p)) ∧ dark t.lamp ∧
             t.peers.silenceTimer = none ∧ t.peers.heard = false ∧ t.peers.silent = false) ∧
         (s.race.own = .offline → t.race = s.race ∧ t.peers = s.peers ∧ t.lamp = s.lamp) ∧
         t.events.records =
           posted s [⟨.duplicateStation, s.own, BitVec.ofNat 16 (frameCode f.payload), a⟩]) ∧
     (s.tx.phase = .disabled → s.currentStands = true →
       exec (.frameCompletion bytes) s = .next { s with
         rx := afterGood s.rx, tx := { s.tx with lastSender := f.sender } }) ∧
     (s.tx.phase = .sending → exec (.frameCompletion bytes) s = .next s)) ∧
  ∀ s : State, s.tx.phase = .sending → exec .frameBroken s = .next s

/-! ## The cabinet bus: frames from other stations -/

/-- A CALL from a station that is not a participant (R57, R59, R60, R73), a CAR from one, which makes it ELSEWHERE and is
not stored (R61), and a WITHDRAW from one, which updates reception and presence only (R33, R61). -/
def Obligations.FramesFromLobbyStations : Prop :=
  (∀ (s : State) (a : Instant) (bytes : List Byte) (f : BusFrame) (entered : Bool) (race : LobbyInfo),
     s.currentStands = true → assembling s a → checkFrame bytes = .valid f → f.payload = .call entered race →
     f.sender ≠ s.own → s.race.own ≠ .offline → (s.entry f.sender).state.isRace = false →
     ∃ t, exec (.frameCompletion bytes) s = .next t ∧
       t = { s with
         rx := afterGood s.rx, tx := { s.tx with lastSender := f.sender }, peers := t.peers
         events := t.events } ∧
       received (s.entry f.sender) (t.entry f.sender) f a ∧
       (t.entry f.sender).state = (if entered then .entered else .present) ∧
       (t.entry f.sender).lobby = some race ∧ (t.entry f.sender).presenceTimer = some (a + 1000000) ∧
       (t.entry f.sender).car = (s.entry f.sender).car ∧ (t.entry f.sender).dnf = (s.entry f.sender).dnf ∧
       (t.entry f.sender).resend = (s.entry f.sender).resend ∧ linkAlive t a ∧
       (∀ p, p ≠ f.sender → t.entry p = s.entry p) ∧ t.events.enable = s.events.enable ∧
       t.events.records = posted s (joined s f a ++
         postIf (entered && (decide ((s.entry f.sender).state = .absent) ||
           decide ((s.entry f.sender).state = .present))) ⟨.peerEntered, f.sender, race.laps.setWidth 16, a⟩ ++
         postIf (!entered && decide ((s.entry f.sender).state = .entered)) ⟨.peerLeftLobby, f.sender, 0, a⟩ ++
         linkHeard s f a)) ∧
  (∀ (s : State) (a : Instant) (bytes : List Byte) (f : BusFrame) (c : CarReport), s.currentStands = true →
     assembling s a → checkFrame bytes = .valid f → f.payload = .car c → f.sender ≠ s.own →
     s.race.own ≠ .offline → (s.entry f.sender).state.isRace = false →
     ∃ t, exec (.frameCompletion bytes) s = .next t ∧
       t = { s with
         rx := afterGood s.rx, tx := { s.tx with lastSender := f.sender }, peers := t.peers
         events := t.events } ∧
       received (s.entry f.sender) (t.entry f.sender) f a ∧ (t.entry f.sender).state = .elsewhere ∧
       (t.entry f.sender).dnf = c.dnf ∧ (t.entry f.sender).resend = c.resend ∧
       (t.entry f.sender).car = (s.entry f.sender).car ∧
       (t.entry f.sender).presenceTimer = some (a + 1000000) ∧ linkAlive t a ∧
       (∀ p, p ≠ f.sender → t.entry p = s.entry p) ∧
       t.events.records = posted s (joined s f a ++ linkHeard s f a)) ∧
  (∀ (s : State) (a : Instant) (bytes : List Byte) (f : BusFrame) (reason : Byte), s.currentStands = true →
     assembling s a → checkFrame bytes = .valid f → f.payload = .withdraw reason → f.sender ≠ s.own →
     s.race.own ≠ .offline → (s.entry f.sender).state.isRace = false →
     ∃ t, exec (.frameCompletion bytes) s = .next t ∧
       t = { s with
         rx := afterGood s.rx, tx := { s.tx with lastSender := f.sender }, peers := t.peers
         events := t.events } ∧
       t.entry f.sender = { s.entry f.sender with
         state := if (s.entry f.sender).state = .absent then .present else (s.entry f.sender).state
         lastHeard := some a, lastSequence := some f.sequence, raceFlag := f.raceFlag
         window := shiftWindow (s.entry f.sender).window (s.entry f.sender).lastSequence f.sequence
         presenceTimer := some (a + 1000000) } ∧
       linkAlive t a ∧ (∀ p, p ≠ f.sender → t.entry p = s.entry p) ∧
       t.events.records = posted s (joined s f a ++ linkHeard s f a))

/-- A CAR without FINISHED from a participant: the lost timer restarts, and the report is stored and blended unless the
record held is later (R66, R67, R125 to R128); a LOST participant returns to RACING with a snap (R69). -/
def Obligations.CarFromParticipantStored : Prop :=
  (∀ (s : State) (a : Instant) (bytes : List Byte) (f : BusFrame) (c : CarReport), s.currentStands = true →
     assembling s a → checkFrame bytes = .valid f → f.payload = .car c → c.finishAge = none → f.sender ≠ s.own →
     s.race.own ≠ .offline →
     ((s.entry f.sender).state = .grid ∨ (s.entry f.sender).state = .racing ∨
       (s.entry f.sender).state = .finished) →
     ∃ t, exec (.frameCompletion bytes) s = .next t ∧
       t = { s with
         rx := afterGood s.rx, tx := { s.tx with lastSender := f.sender }, peers := t.peers
         events := t.events } ∧
       received (s.entry f.sender) (t.entry f.sender) f a ∧ (t.entry f.sender).state = (s.entry f.sender).state ∧
       (t.entry f.sender).dnf = c.dnf ∧ (t.entry f.sender).resend = c.resend ∧
       (t.entry f.sender).lostTimer = some (a + BitVec.ofNat 32 (s.settings.lostTimeout * 1000)) ∧
       (t.entry f.sender).finish = (s.entry f.sender).finish ∧ linkAlive t a ∧
       (∀ r, (s.entry f.sender).car = some r → 0 < interval (a - c.sampleAge.setWidth 32) r.car.sample →
         (t.entry f.sender).car = some r ∧ (t.entry f.sender).display = (s.entry f.sender).display) ∧
       ((∀ r, (s.entry f.sender).car = some r → interval (a - c.sampleAge.setWidth 32) r.car.sample ≤ 0) →
         (t.entry f.sender).car = some ⟨⟨a - c.sampleAge.setWidth 32, c.x, c.y, c.z, c.vx, c.vy, c.vz, c.h, c.w,
           c.g, c.q, c.surface⟩, c.laps, false, none⟩) ∧
       ((s.entry f.sender).car = none →
         (t.entry f.sender).display = { (s.entry f.sender).display with
           cx := 0, cy := 0, cz := 0, ch := 0, snapped := true }) ∧
       (∀ r, (s.entry f.sender).car = some r → interval (a - c.sampleAge.setWidth 32) r.car.sample ≤ 0 →
         (t.entry f.sender).display =
           blended s.settings (s.entry f.sender).display (r.car.carry s.settings a) ((c.values a).carry s.settings a)
             c.surface (staleAt s.settings r.car.sample a)) ∧
       (∀ p, p ≠ f.sender → t.entry p = s.entry p) ∧ t.events.records = posted s (linkHeard s f a)) ∧
  (∀ (s : State) (a : Instant) (bytes : List Byte) (f : BusFrame) (c : CarReport), s.currentStands = true →
     assembling s a → checkFrame bytes = .valid f → f.payload = .car c → c.finishAge = none → f.sender ≠ s.own →
     s.race.own ≠ .offline → (s.entry f.sender).state = .lost →
     ∃ t, exec (.frameCompletion bytes) s = .next t ∧
       t = { s with
         rx := afterGood s.rx, tx := { s.tx with lastSender := f.sender }, peers := t.peers
         events := t.events } ∧
       (t.entry f.sender).state = .racing ∧
       (t.entry f.sender).lostTimer = some (a + BitVec.ofNat 32 (s.settings.lostTimeout * 1000)) ∧
       received (s.entry f.sender) (t.entry f.sender) f a ∧
       (t.entry f.sender).dnf = c.dnf ∧ (t.entry f.sender).resend = c.resend ∧
       (t.entry f.sender).finish = (s.entry f.sender).finish ∧ linkAlive t a ∧
       (t.entry f.sender).car = some ⟨⟨a - c.sampleAge.setWidth 32, c.x, c.y, c.z, c.vx, c.vy, c.vz, c.h, c.w,
         c.g, c.q, c.surface⟩, c.laps, false, none⟩ ∧
       (t.entry f.sender).display = { (s.entry f.sender).display with
         cx := 0, cy := 0, cz := 0, ch := 0, snapped := true } ∧
       (∀ p, p ≠ f.sender → t.entry p = s.entry p) ∧
       t.events.records =
         posted s (⟨.peerReturned, f.sender, c.laps.setWidth 16, a⟩ :: linkHeard s f a))

/-- A CAR with FINISHED from a participant that is not RETIRED (R66, R67, R69, R105 to R107, R125 to R128). The entry
is FINISHED after it, but for GRID, which stays; PEER_RETURNED and PEER_FINISHED are posted as the entry stood. The
finish is A less the finish age as a race time: it is written when the entry holds none and is then FINISHED, in own
state RACING or FINISHED, and it is positive. Where no close follows, that is all; the finish can bring the close by
the grace end, and in own state FINISHED an entry that becomes FINISHED as the last can bring the close by all-done
(R107, R109, R110). That the grace end comes before all-done is the model's choice (notes/assumptions/24.md), and so
is LINK_HEARD before the records of a close (notes/assumptions/16.md), and so is the tick of the event as the stamp of
RESULTS_FINAL (notes/assumptions/42.md). -/
def Obligations.CarWithFinishWritten : Prop :=
  ∀ (s : State) (a : Instant) (bytes : List Byte) (f : BusFrame) (c : CarReport) (age finish : BitVec 32)
    (r : RaceRecord) (e : Entry) (done written first : Bool) (heard : List EventRecord), assembling s a →
    checkFrame bytes = .valid f → f.payload = .car c → c.finishAge = some age → f.sender ≠ s.own →
    s.race.own ≠ .offline → s.race.record = some r → e = s.entry f.sender →
    (e.state = .grid ∨ e.state = .racing ∨ e.state = .finished ∨ e.state = .lost) →
    finish = a - age - r.green → done = decide (e.state ≠ .grid) →
    written = (done && e.finish.isNone && (decide (s.race.own = .racing) || decide (s.race.own = .finished)) &&
      decide (0 < finish.toInt)) →
    first = s.race.earliest.all (fun x => decide (finish.toNat < x.toNat)) →
    heard = postIf (decide (e.state = .lost)) ⟨.peerReturned, f.sender, c.laps.setWidth 16, a⟩ ++
      postIf (decide (e.state = .racing) || (decide (e.state = .lost) && e.finish.isNone))
        ⟨.peerFinished, f.sender, c.laps.setWidth 16, a⟩ ++ linkHeard s f a →
    ∃ t, exec (.frameCompletion bytes) s = .next t ∧
      t = { s with
        rx := afterGood s.rx, tx := t.tx, peers := t.peers, race := t.race, events := t.events } ∧
      received e (t.entry f.sender) f a ∧ (t.entry f.sender).dnf = c.dnf ∧ (t.entry f.sender).resend = c.resend ∧
      (t.entry f.sender).state = (if done then .finished else .grid) ∧
      (t.entry f.sender).finish = (if written then some finish else e.finish) ∧
      (t.entry f.sender).lostTimer = some (a + BitVec.ofNat 32 (s.settings.lostTimeout * 1000)) ∧
      ((t.entry f.sender).car =
        if e.state ≠ .lost ∧ e.car.any (fun x => decide (0 < interval (a - c.sampleAge.setWidth 32) x.car.sample))
        then e.car
        else some ⟨⟨a - c.sampleAge.setWidth 32, c.x, c.y, c.z, c.vx, c.vy, c.vz, c.h, c.w, c.g, c.q, c.surface⟩,
          c.laps, true, none⟩) ∧
      displayAfterCar s.settings e c a (t.entry f.sender).display ∧
      linkAlive t a ∧ (∀ p, p ≠ f.sender → t.entry p = s.entry p) ∧
      t.race.earliest = (if written && first then some finish else s.race.earliest) ∧
      ((written && first) = false ∨
          reached s.tick (a - age + BitVec.ofNat 32 (s.settings.finishGrace * 1000000) + 250000) = false →
        s.race.own ≠ .finished ∨ done = false ∨ (e.state = .finished ∧ written = false) ∨
          (∃ p, inMask r.mask p = true ∧ p ≠ s.own ∧ p ≠ f.sender ∧ ¬ isDone (s.entry p)) →
        (s.currentStands = true → t.tx = { s.tx with lastSender := f.sender }) ∧
          t.race = { s.race with
            earliest := if written && first then some finish else s.race.earliest
            graceTimer :=
              if written && first then
                some (a - age + BitVec.ofNat 32 (s.settings.finishGrace * 1000000) + 250000)
              else s.race.graceTimer } ∧
          t.events.records = posted s heard) ∧
      ((written && first) = true →
        reached s.tick (a - age + BitVec.ofNat 32 (s.settings.finishGrace * 1000000) + 250000) = true →
        t.race.own = .results ∧
          t.race.results =
            some (t.resultsFor (some (finish + BitVec.ofNat 32 (s.settings.finishGrace * 1000000)))) ∧
          t.events.records = posted s (heard ++ [finalRecord s
            (t.resultsFor (some (finish + BitVec.ofNat 32 (s.settings.finishGrace * 1000000))))])) ∧
      ((written && first) = false ∨
          reached s.tick (a - age + BitVec.ofNat 32 (s.settings.finishGrace * 1000000) + 250000) = false →
        s.race.own = .finished → (e.state = .racing ∨ e.state = .lost ∨ (e.state = .finished ∧ written = true)) →
        (∀ p, inMask r.mask p = true → p ≠ s.own → p ≠ f.sender → isDone (s.entry p)) →
        t.race.own = .results ∧ t.race.results = some (t.resultsFor none) ∧
          t.events.records = posted s (heard ++ [finalRecord s (t.resultsFor none)]))

/-- A WITHDRAW or a CALL from a participant that is not RETIRED makes it RETIRED, a CALL's lobby info stored first;
when that meets all-done, the race closes at the same event (R60, R70, R109, R110). That LINK_HEARD comes before the
record of that close is the model's choice (notes/assumptions/16.md), and so is the stamp of that record, the tick
(notes/assumptions/42.md). A frame of any kind but a START from a RETIRED participant updates its reception, and a
CALL its lobby info, and it stays RETIRED (R66, R70). -/
def Obligations.WithdrawRetiresParticipant : Prop :=
  (∀ (s : State) (a : Instant) (bytes : List Byte) (f : BusFrame) (detail : Word), assembling s a →
    checkFrame bytes = .valid f →
    ((∃ reason, f.payload = .withdraw reason ∧ detail = reason.setWidth 16) ∨
      (∃ entered race, f.payload = .call entered race ∧ detail = 0)) →
    f.sender ≠ s.own → s.race.own ≠ .offline →
    (s.entry f.sender).state.isRace = true → (s.entry f.sender).state ≠ .retired →
    ∃ t, exec (.frameCompletion bytes) s = .next t ∧ (t.entry f.sender).state = .retired ∧
      (t.entry f.sender).lostTimer = none ∧ (t.entry f.sender).car = (s.entry f.sender).car ∧
      (t.entry f.sender).finish = (s.entry f.sender).finish ∧
      (t.entry f.sender).display = (s.entry f.sender).display ∧
      (∀ reason, f.payload = .withdraw reason → (t.entry f.sender).lobby = (s.entry f.sender).lobby) ∧
      (∀ entered race, f.payload = .call entered race → (t.entry f.sender).lobby = some race) ∧
      received (s.entry f.sender) (t.entry f.sender) f a ∧ (∀ p, p ≠ f.sender → t.entry p = s.entry p) ∧
      (s.race.own ≠ .finished → t.race = s.race ∧
        t.events.records = posted s (⟨.peerRetired, f.sender, detail, a⟩ :: linkHeard s f a)) ∧
      (∀ r, s.race.own = .finished → s.race.record = some r →
        ((∃ p, inMask r.mask p = true ∧ p ≠ s.own ∧ p ≠ f.sender ∧ ¬ isDone (s.entry p)) →
          t.race = s.race ∧ t.events.records = posted s (⟨.peerRetired, f.sender, detail, a⟩ :: linkHeard s f a)) ∧
        ((∀ p, inMask r.mask p = true → p ≠ s.own → p ≠ f.sender → isDone (s.entry p)) →
          t.race = { s.race with
            own := .results, graceTimer := none, limitTimer := none
            ceilingTimer := some (r.green + 2000000000), results := some (t.resultsFor none) } ∧
          t.events.records = posted s (⟨.peerRetired, f.sender, detail, a⟩ ::
            (linkHeard s f a ++ [finalRecord s (t.resultsFor none)]))))) ∧
  (∀ (s : State) (a : Instant) (bytes : List Byte) (f : BusFrame), s.currentStands = true → assembling s a →
    checkFrame bytes = .valid f → (∀ q, f.payload ≠ .start q) → f.sender ≠ s.own → s.race.own ≠ .offline →
    (s.entry f.sender).state = .retired →
    ∃ t, exec (.frameCompletion bytes) s = .next t ∧
      t = { s with
        rx := afterGood s.rx, tx := { s.tx with lastSender := f.sender }, peers := t.peers
        events := t.events } ∧
      t.entry f.sender = { s.entry f.sender with
        lastHeard := some a, lastSequence := some f.sequence, raceFlag := f.raceFlag
        window := shiftWindow (s.entry f.sender).window (s.entry f.sender).lastSequence f.sequence
        lobby := (t.entry f.sender).lobby, dnf := (t.entry f.sender).dnf, resend := (t.entry f.sender).resend } ∧
      (∀ entered race, f.payload = .call entered race → (t.entry f.sender).lobby = some race) ∧
      ((∀ entered race, f.payload ≠ .call entered race) → (t.entry f.sender).lobby = (s.entry f.sender).lobby) ∧
      (∀ c, f.payload = .car c → (t.entry f.sender).dnf = c.dnf ∧ (t.entry f.sender).resend = c.resend) ∧
      ((∀ c, f.payload ≠ .car c) → (t.entry f.sender).dnf = (s.entry f.sender).dnf ∧
        (t.entry f.sender).resend = (s.entry f.sender).resend) ∧
      linkAlive t a ∧ (∀ p, p ≠ f.sender → t.entry p = s.entry p) ∧
      t.events.records = posted s (linkHeard s f a))

/-! ## Agreeing on a start -/

/-- A START for this station's race, heard in ENTERED with this station in its mask and a lead of 1,000,000 or more,
is adopted (R64, R85 to R87, R153), and a frame that this station is SENDING goes on (R35, R91). The model's choices:
LINK_HEARD comes after START_ADOPTED (notes/assumptions/16.md), and a lamp step at green with a green hold of 0 does
not govern before green (notes/assumptions/40.md). -/
def Obligations.StartAdopted : Prop :=
  ∀ (s : State) (a : Instant) (bytes : List Byte) (f : BusFrame) (q : StartProposal), assembling s a →
    checkFrame bytes = .valid f → f.payload = .start q → f.sender ≠ s.own → s.race.own = .entered →
    s.race.entry = some q.race → inMask q.mask s.own = true → 1000000 ≤ q.lead.toNat →
    ∃ t, exec (.frameCompletion bytes) s = .next t ∧ t.race.own = .countdown ∧
      t.race.record = some ⟨f.sender, a + q.lead.setWidth 32,
        reached s.tick (a + q.lead.setWidth 32 - 1000000), q.race, q.mask⟩ ∧
      (reached s.tick (a + q.lead.setWidth 32 - 1000000) = false →
        t.race.lockTimer = some (a + q.lead.setWidth 32 - 1000000)) ∧
      t.race.greenTimer = some (a + q.lead.setWidth 32) ∧ t.race.lobbyTimer = none ∧ t.race.proposal = .none ∧
      t.race.entry = s.race.entry ∧ (s.race.proposal = .pending → ControlFrame.start ∉ t.tx.queue) ∧
      (s.tx.phase = .sending → t.tx.phase = .sending ∧ t.tx.inFlight = s.tx.inFlight) ∧
      (∀ p, inMask q.mask p = true → p ≠ s.own → p ≠ f.sender → seated (s.entry p) (t.entry p)) ∧
      (inMask q.mask f.sender = true → (t.entry f.sender).state = .grid) ∧
      (inMask q.mask f.sender = false → (s.entry f.sender).state.isRace = false →
        (t.entry f.sender).state = .elsewhere) ∧
      (∀ p, inMask q.mask p = false → p ≠ f.sender → t.entry p = s.entry p) ∧
      scheduledAt s.settings s.tick (a + q.lead.setWidth 32) t.lamp ∧
      t.events.records = posted s (joined s f a ++
        ⟨.startAdopted, f.sender, q.mask.setWidth 16, a⟩ :: linkHeard s f a) ∧
      t.frame = s.frame ∧ t.image = s.image ∧ t.cmd = s.cmd ∧ t.loader = s.loader

/-- A START for this station's race that leaves it out is missed (R61, R88). One heard in ATTRACT, or for another race in
ENTERED and in COUNTDOWN before the lock, is ignored: the race stays as it was, and a sender that is no participant is
ELSEWHERE (R61, R84, R85, R91). One too late, by its lead, the lock or the own race state, posts START_LATE and leaves
the race as it was (R84, R85, R90, R91). That LINK_HEARD comes last is the
model's choice (notes/assumptions/16.md). -/
def Obligations.StartMissedOrTooLate : Prop :=
  (∀ (s : State) (a : Instant) (bytes : List Byte) (f : BusFrame) (q : StartProposal), s.currentStands = true →
     assembling s a → checkFrame bytes = .valid f → f.payload = .start q → f.sender ≠ s.own →
     s.race.own = .entered → s.race.entry = some q.race → inMask q.mask s.own = false →
     ∃ t, exec (.frameCompletion bytes) s = .next t ∧
       t = { s with
         rx := afterGood s.rx, tx := { s.tx with lastSender := f.sender }, peers := t.peers
         events := t.events } ∧
       (∀ p, inMask q.mask p = true → p ≠ f.sender →
         (t.entry p).state = .elsewhere ∧
           ((s.entry p).state = .absent → (t.entry p).presenceTimer = some (a + 1000000)) ∧
           ((s.entry p).state ≠ .absent → (t.entry p).presenceTimer = (s.entry p).presenceTimer)) ∧
       (inMask q.mask f.sender = true ∨ (s.entry f.sender).state.isRace = false →
         (t.entry f.sender).state = .elsewhere) ∧
       received (s.entry f.sender) (t.entry f.sender) f a ∧ linkAlive t a ∧
       (∀ p, inMask q.mask p = false → p ≠ f.sender → t.entry p = s.entry p) ∧
       t.events.records = posted s (joined s f a ++
         ⟨.startMissed, f.sender, q.mask.setWidth 16, a⟩ :: linkHeard s f a)) ∧
  (∀ (s : State) (a : Instant) (bytes : List Byte) (f : BusFrame) (q : StartProposal), s.currentStands = true →
     assembling s a → checkFrame bytes = .valid f → f.payload = .start q → f.sender ≠ s.own →
     (s.race.own = .attract ∨ (s.race.own = .entered ∧ s.race.entry ≠ some q.race) ∨
       (s.race.own = .countdown ∧ ∃ r, s.race.record = some r ∧ r.locked = false ∧ r.race ≠ q.race)) →
     ∃ t, exec (.frameCompletion bytes) s = .next t ∧
       t = { s with
         rx := afterGood s.rx, tx := { s.tx with lastSender := f.sender }, peers := t.peers
         events := t.events } ∧
       passedOver (s.entry f.sender) (t.entry f.sender) f a ∧ linkAlive t a ∧
       (∀ p, p ≠ f.sender → t.entry p = s.entry p) ∧
       t.events.records = posted s (joined s f a ++ linkHeard s f a)) ∧
  (∀ (s : State) (a : Instant) (bytes : List Byte) (f : BusFrame) (q : StartProposal) (detail : Word),
     s.currentStands = true → assembling s a → checkFrame bytes = .valid f → f.payload = .start q →
     f.sender ≠ s.own →
     ((detail = 1 ∧ s.race.own = .entered ∧ s.race.entry = some q.race ∧ inMask q.mask s.own = true ∧
         q.lead.toNat < 1000000) ∨
       (detail = 1 ∧ s.race.own = .countdown ∧ q.lead.toNat < 1000000 ∧
         ∃ r, s.race.record = some r ∧ r.locked = false ∧ r.race = q.race) ∨
       (detail = 2 ∧ s.race.own = .countdown ∧ ∃ r, s.race.record = some r ∧ r.locked = true) ∨
       (detail = 2 ∧ (s.race.own = .racing ∨ s.race.own = .finished ∨ s.race.own = .results))) →
     ∃ t, exec (.frameCompletion bytes) s = .next t ∧
       t = { s with
         rx := afterGood s.rx, tx := { s.tx with lastSender := f.sender }, peers := t.peers
         events := t.events } ∧
       passedOver (s.entry f.sender) (t.entry f.sender) f a ∧ linkAlive t a ∧
       (∀ p, p ≠ f.sender → t.entry p = s.entry p) ∧
       t.events.records = posted s (joined s f a ++ ⟨.startLate, f.sender, detail, a⟩ :: linkHeard s f a))

/-- A START in COUNTDOWN before the lock, for the record's race. It replaces the race when its green is more than 2,000 µs
earlier, or within 2,000 µs with a lower proposer, and is ignored otherwise (R91). With this station in its mask the record,
the lock and green timers and the lamp schedule are built anew, the mask seated and those outside it unseated (R71, R92);
one that leaves this station out takes it back to ENTERED (R89, R93). The records come in the order of R84. The model's
choices: LINK_HEARD comes last (notes/assumptions/16.md), PEER_GONE has the stamp A (notes/assumptions/15.md), a lock
already reached locks at once (notes/assumptions/23.md), a sender outside its own mask, just unseated, is ELSEWHERE
(notes/assumptions/17.md), and a lamp step at green with a green hold of 0 does not govern before green
(notes/assumptions/40.md). -/
def Obligations.StartReplacesRace : Prop :=
  ∀ (s : State) (a green : Instant) (bytes : List Byte) (f : BusFrame) (q : StartProposal) (r : RaceRecord),
    assembling s a → checkFrame bytes = .valid f → f.payload = .start q → f.sender ≠ s.own →
    s.race.own = .countdown → s.race.record = some r → r.locked = false → r.race = q.race →
    1000000 ≤ q.lead.toNat → green = a + q.lead.setWidth 32 →
    (interval green r.green ≤ 2000 → (interval green r.green < -2000 ∨ r.proposer.val ≤ f.sender.val) →
      ∃ t, exec (.frameCompletion bytes) s = .next t ∧ t.race = s.race ∧ t.lamp = s.lamp ∧
        passedOver (s.entry f.sender) (t.entry f.sender) f a ∧ (∀ p, p ≠ f.sender → t.entry p = s.entry p) ∧
        t.events.records = posted s (joined s f a ++ linkHeard s f a)) ∧
    (2000 < interval green r.green ∨ (-2000 ≤ interval green r.green ∧ f.sender.val < r.proposer.val) →
      (inMask q.mask f.sender = false → (s.entry f.sender).state ≠ .lost →
        ∃ t, exec (.frameCompletion bytes) s = .next t ∧ (t.entry f.sender).state = .elsewhere ∧
          (t.entry f.sender).presenceTimer = some (a + 1000000)) ∧
      (inMask q.mask s.own = true →
        ∃ t, exec (.frameCompletion bytes) s = .next t ∧
          t = { s with
            rx := afterGood s.rx, tx := t.tx, peers := t.peers, race := t.race, lamp := t.lamp
            events := t.events } ∧
          t.race = { s.race with
            record := some ⟨f.sender, green, reached s.tick (green - 1000000), q.race, q.mask⟩
            lockTimer := if reached s.tick (green - 1000000) then none else some (green - 1000000)
            greenTimer := some green } ∧
          scheduledAt s.settings s.tick green t.lamp ∧ t.tx.slot.state = s.tx.slot.state ∧
          (t.entry s.own).car = (s.entry s.own).car ∧
          (∀ p, inMask q.mask p = true → p ≠ s.own → p ≠ f.sender → seated (s.entry p) (t.entry p)) ∧
          (∀ p, inMask q.mask p = true → p ≠ s.own → (t.entry p).state = .grid ∧ (t.entry p).car = none) ∧
          (∀ p, inMask q.mask p = false → p ≠ s.own → (t.entry p).state.isRace = false) ∧
          (∀ p, inMask q.mask p = false → p ≠ s.own → p ≠ f.sender →
            if (s.entry p).state.isRace then unseated (s.entry p) (t.entry p) s.tick else t.entry p = s.entry p) ∧
          t.events.records = posted s (joined s f a ++
            ⟨.startReplaced, f.sender, q.mask.setWidth 16, a⟩ ::
              (gone s (fun p => !inMask q.mask p) a ++ linkHeard s f a))) ∧
      (inMask q.mask s.own = false →
        ∃ t, exec (.frameCompletion bytes) s = .next t ∧ t.race.own = .entered ∧ raceless t.race ∧
          t.race.entry = s.race.entry ∧
          t.race.lobbyTimer = some (s.tick + BitVec.ofNat 32 (s.settings.lobbyWindow * 1000000)) ∧
          t.race.proposal = .none ∧ slotEmpty t.tx ∧ dark t.lamp ∧
          (t.entry s.own).car = none ∧ (t.entry s.own).finish = none ∧
          (∀ p, p ≠ s.own → (t.entry p).state.isRace = false) ∧
          (∀ p, inMask q.mask p = true → p ≠ s.own → (t.entry p).state = .elsewhere ∧
            ((s.entry p).state.isRace = true → (t.entry p).car = none)) ∧
          (∀ p, inMask q.mask p = false → p ≠ s.own → p ≠ f.sender →
            if (s.entry p).state.isRace then unseated (s.entry p) (t.entry p) s.tick else t.entry p = s.entry p) ∧
          t.events.records = posted s (joined s f a ++
            ⟨.startMissed, f.sender, q.mask.setWidth 16, a⟩ :: (gone s (fun _ => true) a ++ linkHeard s f a))))

/-! ## Sending -/

/-- START_OPPORTUNITY: what goes is the current frame held, else the control queue's head, else (outside OFFLINE) a CAR,
a resend, a CALL, in that order; the departure stamp is the tick, and the opportunity is over; with no work the turn
passes unused (R40, R41, R42). A CAR or a resend carries the slot's values, the own lap count, DNF as the own result
says, RESEND as the slot says, and its ages, which are the largest there are once the ceiling mark is set (R26, R31, R32,
R104, R115). An own START whose field has shrunk below the minimum is withdrawn, at a later attempt too, and the next
candidate goes at once (R41, R82). When a candidate is eligible, when work is pending and when the line is open (R34, R37,
R38, R40). -/
def Obligations.StartOpportunityDeparts : Prop :=
  (∀ s : State,
    (s.carEligible = true ↔ (∃ v, s.tx.slot.state = .unsent v) ∧ s.tx.spacingTimer = none) ∧
    (s.resendEligible = true ↔ (s.race.own = .finished ∨ s.race.own = .results) ∧
      (∃ v, s.tx.slot.state = .sent v) ∧ s.tx.resendTimer = none) ∧
    (s.callDue = true ↔ (s.race.own = .attract ∨ s.race.own = .entered) ∧ s.tx.callTimer = none ∧
      s.tx.phase ≠ .stuck) ∧
    (s.workPending = true ↔ s.tx.current ≠ none ∨ s.tx.queue ≠ [] ∨
      (s.race.own ≠ .offline ∧ (s.carEligible = true ∨ s.resendEligible = true ∨ s.callDue = true))) ∧
    (s.lineOpen = true ↔ ∃ o, s.tx.opportunity = some o ∧ interval s.tick o ≤ 0)) ∧
  (∀ s : State, s.currentStands = true → (s.tx.phase = .ready ∨ s.tx.phase = .backoff) → s.lineOpen = true →
     (s.workPending = false → exec .startOpportunity s = .next s) ∧
     ∀ x : Source,
       ((∃ c, s.tx.current = some c ∧ c.source = x) ∨
         (s.tx.current = none ∧
           ((∃ c rest, s.tx.queue = c :: rest ∧ x = c.source) ∨
             (s.tx.queue = [] ∧ s.race.own ≠ .offline ∧
               ((x = .car ∧ s.carEligible = true) ∨
                 (x = .resend ∧ s.carEligible = false ∧ s.resendEligible = true) ∨
                 (x = .call ∧ s.carEligible = false ∧ s.resendEligible = false ∧ s.callDue = true)))))) →
       (x = .start → s.settings.minField ≤ fieldCount s) →
       ∃ t g, exec .startOpportunity s = .next t ∧ t = { s with tx := t.tx } ∧ t.tx.phase = .sending ∧
         t.tx.opportunity = none ∧ t.tx.inFlight = some g ∧ g.departure = s.tick ∧ t.tx.queue = s.tx.queue ∧
         t.tx.slot.state = s.tx.slot.state ∧ t.tx.sequence = s.tx.sequence ∧ carries s x g.frame) ∧
  (∀ s : State, s.currentStands = true → (s.tx.phase = .ready ∨ s.tx.phase = .backoff) → s.lineOpen = true →
     ((s.tx.current = none ∧ s.tx.queue.head? = some .start) ∨ ∃ c, s.tx.current = some c ∧ c.source = .start) →
     fieldCount s < s.settings.minField →
     ∃ t, exec .startOpportunity s = .next t ∧
       t.tx.queue = s.tx.queue.filter (fun c => decide (c ≠ .start)) ∧ t.race.proposal = .none ∧
       (∀ n rest, t.tx.queue = .withdraw n :: rest →
         ∃ g, t.tx.phase = .sending ∧ t.tx.inFlight = some g ∧ g.departure = s.tick ∧
           g.frame.payload = .withdraw n) ∧
       (t.tx.queue = [] → s.race.own = .entered → s.carEligible = false → s.callDue = true →
         ∃ g, t.tx.phase = .sending ∧ t.tx.inFlight = some g ∧ g.departure = s.tick ∧
           g.frame.payload = .call true (s.race.entry.getD ⟨0, 0⟩)) ∧
       (t.tx.queue = [] → s.race.own = .entered → s.carEligible = false → s.callDue = false →
         t.tx = { s.tx with queue := [], current := none, phase := .ready }) ∧
       t.race.lobbyTimer = some (s.tick + BitVec.ofNat 32 (s.settings.lobbyWindow * 1000000)) ∧
       t.race.own = s.race.own ∧ t.tx.sequence = s.tx.sequence ∧
       t.events.records = posted s [⟨.lobbyExtended, s.own, BitVec.ofNat 16 (fieldCount s), s.tick⟩] ∧
       t = { s with tx := t.tx, race := t.race, events := t.events })

/-- READ_BACK_WHOLE: the source is settled, the sequence number steps, and the frame is an own arrival (R43, R47,
R56); the own START in ENTERED is adopted with A equal to its departure stamp (R83, R85, R87), and one read back in
COUNTDOWN before the lock is tested as any other: it replaces the race or is ignored (R91, R92). A CAR or a resend
whose slot a POST_CAR has refilled leaves it UNSENT, one whose slot has been emptied leaves it EMPTY and starts no
timer (R38, R43, R50); a CALL read back outside ATTRACT and ENTERED starts no cadence (R37, R43). A frame still read
back across a RESTART has no effect at its completion, which only ends it (R50). The model's choices: what a frame
settles whose source is gone (notes/assumptions/13.md), PEER_GONE of a replacement with the stamp A
(notes/assumptions/15.md), a lock already reached that locks at once (notes/assumptions/23.md), a lamp step at green
that with a green hold of 0 does not govern before green (notes/assumptions/40.md), and the rows that end a frame read
back across a RESTART (notes/assumptions/22.md). -/
def Obligations.ReadBackWholeSettles : Prop :=
  (∀ (s : State) (g : InFlight), s.tx.phase = .sending → s.tx.crossing = false → s.tx.inFlight = some g →
     (∀ q, g.frame.payload ≠ .start q) → g.frame.sender = s.own →
     ∃ t, exec .readBackWhole s = .next t ∧
       t = { s with rx := { s.rx with arrival := none }, tx := t.tx, peers := t.peers, race := t.race } ∧
       t.tx.sequence = s.tx.sequence + 1 ∧ t.tx.framesSent = satInc s.tx.framesSent ∧ t.tx.lastSender = s.own ∧
       (s.tx.opportunity = none → t.tx.phase = .ready ∧ t.tx.current = none ∧ t.tx.inFlight = none) ∧
       (∀ n c rest, g.source = .withdraw n → s.tx.current = some c → c.source = .withdraw n →
         s.tx.queue = .withdraw n :: rest → t.tx.queue = rest) ∧
       (g.source = .call → (s.race.own = .attract ∨ s.race.own = .entered) →
         t.tx.callTimer = some (g.departure + 250000)) ∧
       (g.source ≠ .call ∨ (s.race.own ≠ .attract ∧ s.race.own ≠ .entered) → t.tx.callTimer = s.tx.callTimer) ∧
       (g.source = .car ∨ g.source = .resend ∨ g.source = .call → t.tx.queue = s.tx.queue) ∧
       ((g.source ≠ .car ∧ g.source ≠ .resend) ∨ s.tx.slot.state = .empty →
         t.tx.slot.state = s.tx.slot.state ∧ t.tx.spacingTimer = s.tx.spacingTimer ∧
           t.tx.resendTimer = s.tx.resendTimer) ∧
       (∀ v, (g.source = .car ∨ g.source = .resend) → s.tx.slot.state = .unsent v →
         t.tx.slot.state = (if s.tx.slot.changed then .unsent v else .sent v) ∧
         t.tx.spacingTimer = some (g.departure + BitVec.ofNat 32 (s.settings.reportSpacing * 1000)) ∧
         t.tx.resendTimer = some (g.departure + 250000)) ∧
       (∀ v, (g.source = .car ∨ g.source = .resend) → s.tx.slot.state = .sent v →
         t.tx.slot.state = .sent v ∧
         t.tx.spacingTimer = some (g.departure + BitVec.ofNat 32 (s.settings.reportSpacing * 1000)) ∧
         t.tx.resendTimer = some (g.departure + 250000)) ∧
       (s.race.own ≠ .offline → received (s.entry s.own) (t.entry s.own) g.frame g.departure) ∧
       (s.race.own = .offline → t.peers = s.peers) ∧ (∀ p, p ≠ s.own → t.entry p = s.entry p)) ∧
  (∀ (s : State) (g : InFlight) (q : StartProposal), s.tx.phase = .sending → s.tx.crossing = false →
     s.tx.inFlight = some g → g.source = .start → g.frame.payload = .start q → g.frame.sender = s.own →
     s.race.own = .entered → s.race.entry = some q.race → inMask q.mask s.own = true →
     1000000 ≤ q.lead.toNat →
     ∃ t, exec .readBackWhole s = .next t ∧ t.race.own = .countdown ∧ t.race.proposal = .none ∧
       (t.race.record.map fun r => (r.proposer, r.green, r.mask)) =
         some (s.own, g.departure + q.lead.setWidth 32, q.mask) ∧
       (∀ p, inMask q.mask p = true → p ≠ s.own → (t.entry p).state = .grid) ∧
       (∀ c rest, s.tx.current = some c → c.source = .start → s.tx.queue = .start :: rest → t.tx.queue = rest) ∧
       t.tx.sequence = s.tx.sequence + 1) ∧
  (∀ (s : State) (g : InFlight) (q : StartProposal) (r : RaceRecord) (green : Instant), s.tx.phase = .sending →
     s.tx.crossing = false → s.tx.inFlight = some g → g.source = .start → g.frame.payload = .start q →
     g.frame.sender = s.own → s.race.own = .countdown → s.race.record = some r → r.locked = false →
     r.race = q.race → 1000000 ≤ q.lead.toNat → green = g.departure + q.lead.setWidth 32 →
     (interval green r.green ≤ 2000 → (interval green r.green < -2000 ∨ r.proposer.val ≤ s.own.val) →
       ∃ t, exec .readBackWhole s = .next t ∧ t.race = { s.race with proposal := .none } ∧ t.lamp = s.lamp ∧
         t.events = s.events ∧ t.tx.sequence = s.tx.sequence + 1) ∧
     (2000 < interval green r.green ∨ (-2000 ≤ interval green r.green ∧ s.own.val < r.proposer.val) →
       inMask q.mask s.own = true →
       ∃ t, exec .readBackWhole s = .next t ∧
         t.race = { s.race with
           proposal := .none
           record := some ⟨s.own, green, reached s.tick (green - 1000000), q.race, q.mask⟩
           lockTimer := if reached s.tick (green - 1000000) then none else some (green - 1000000)
           greenTimer := some green } ∧
         scheduledAt s.settings s.tick green t.lamp ∧
         (∀ p, inMask q.mask p = true → p ≠ s.own → (t.entry p).state = .grid) ∧
         t.tx.sequence = s.tx.sequence + 1 ∧
         t.events.records = posted s (⟨.startReplaced, s.own, q.mask.setWidth 16, g.departure⟩ ::
           gone s (fun p => !inMask q.mask p) g.departure))) ∧
  (∀ s : State, s.currentStands = true → s.tx.crossing = true →
     exec .readBackWhole s = .next { s with
       rx := { s.rx with arrival := none }, tx := { s.tx with crossing := false } } ∧
     (s.rx.arrival.isSome = true → ∀ bytes,
       exec (.frameCompletion bytes) s = .next { s with
         rx := { s.rx with arrival := none }, tx := { s.tx with crossing := false } }))

/-- COLLISION: below the eighth the frame waits a backoff in 0 … 2^min(c,4) - 1 slots, the draw itself left open (R44;
notes/assumptions/3.md); at the eighth it is given up with TX_DROPPED and its source settled (R45), a resend whose slot
was refilled since staying UNSENT (notes/assumptions/34.md). A START whose removal was asked while it was SENDING, which
then is no current frame, is lost at a collision whatever its count (R35), and so is one that has left the queue. A frame
still read back across a RESTART is counted and draws no backoff (R50; notes/assumptions/22.md). -/
def Obligations.CollisionBacksOffOrGivesUp : Prop :=
  (∀ (s : State) (c : Current), s.tx.phase = .sending → s.tx.crossing = false → s.tx.current = some c →
     c.collisions < 7 → s.sourceExists c.source = true → s.tx.opportunity = none →
     ∃ t b, exec .collision s = .next t ∧
       t = { s with rx := { s.rx with remains := true }, tx := t.tx } ∧
       t.tx = { s.tx with
         phase := .backoff, current := some ⟨c.source, c.collisions + 1, b⟩, inFlight := none
         collisions := satInc s.tx.collisions, backoffPlace := s.tx.backoffPlace + 1 } ∧
       b < 2 ^ min (c.collisions + 1) 4) ∧
  (∀ (s : State) (c : Current), s.tx.phase = .sending → s.tx.crossing = false → s.tx.current = some c →
     c.collisions = 7 → s.tx.opportunity = none →
     ∃ t, exec .collision s = .next t ∧ t.tx.current = none ∧ t.tx.phase = .ready ∧
       t.tx.drops = satInc s.tx.drops ∧ t.tx.collisions = satInc s.tx.collisions ∧
       t.tx.sequence = s.tx.sequence ∧
       t.events.records = posted s [⟨.txDropped, s.own, BitVec.ofNat 16 (sourceCode c.source), s.tick⟩] ∧
       (∀ rest n, c.source = .withdraw n → s.tx.queue = .withdraw n :: rest → t.tx.queue = rest) ∧
       (∀ rest, c.source = .start → s.tx.queue = .start :: rest → t.tx.queue = rest ∧ t.race.proposal = .none) ∧
       (c.source = .call → (s.race.own = .attract ∨ s.race.own = .entered) →
         t.tx.callTimer = some (s.tick + 250000)) ∧
       (∀ v, c.source = .resend → s.tx.slot.state = .sent v →
         t.tx.slot.state = .sent v ∧ t.tx.resendTimer = some (s.tick + 250000)) ∧
       (∀ v, c.source = .resend → s.tx.slot.state = .unsent v →
         t.tx.slot.state = .unsent v ∧ t.tx.resendTimer = some (s.tick + 250000)) ∧
       (∀ v, c.source = .car → s.tx.slot.state = .unsent v → s.tx.slot.changed = true →
         t.tx.slot.state = .unsent v) ∧
       (∀ v, c.source = .car → s.tx.slot.state = .unsent v → s.tx.slot.changed = false →
         s.race.own.resends = false → slotEmpty t.tx) ∧
       (∀ v, c.source = .car → s.tx.slot.state = .unsent v → s.tx.slot.changed = false →
         s.race.own.resends = true →
         t.tx.slot.state = .sent v ∧ t.tx.slot.finishMark = s.tx.slot.finishMark ∧
           t.tx.resendTimer = some (s.tick + 250000))) ∧
  (∀ s : State, s.tx.phase = .sending → s.tx.crossing = false → s.tx.opportunity = none →
     (s.tx.current = none ∨
       ∃ c, s.tx.current = some c ∧ c.source = .start ∧ c.collisions < 7 ∧ ControlFrame.start ∉ s.tx.queue) →
     exec .collision s = .next { s with
       rx := { s.rx with remains := true }
       tx := { s.tx with
         phase := .ready, current := none, inFlight := none, collisions := satInc s.tx.collisions
         backoffPlace := s.tx.backoffPlace + 1 } }) ∧
  (∀ s : State, s.currentStands = true → s.tx.crossing = true →
     exec .collision s = .next { s with
       rx := { s.rx with remains := true }
       tx := { s.tx with collisions := satInc s.tx.collisions, crossing := false } })

/-- STUCK_WATCH_EXPIRY: STUCK with BUS_STUCK, the work kept; in DISABLED the watch only stops (R48). At the expiry of the
CALL cadence, report-spacing and resend timers the timer stops, and the control queue and the CAR slot stay (R37, R38);
where that makes a frame eligible while no work was pending and the line is open, the frame departs at that event (R34,
R40; notes/assumptions/9.md), and otherwise only the timer changes. -/
def Obligations.TransmitterTimersExpire : Prop :=
  (∀ (s : State) (i : Instant), s.currentStands = true → s.tx.phase ≠ .sending → s.tx.stuckWatch = some i →
     reached s.tick i = true →
     (s.tx.phase ≠ .disabled →
       ∃ t, exec .stuckWatchExpiry s = .next t ∧
         t = { s with
           tx := { s.tx with
             phase := .stuck, stuckWatch := none, stuckSince := s.tick, stuckCount := 0, callTimer := none
             inFlight := none }
           events := t.events } ∧
         t.events.records = posted s [⟨.busStuck, s.own, BitVec.ofNat 16 s.tx.queue.length, i⟩]) ∧
     (s.tx.phase = .disabled →
       exec .stuckWatchExpiry s = .next { s with tx := { s.tx with stuckWatch := none } })) ∧
  ∀ (s : State) (i : Instant), s.currentStands = true → reached s.tick i = true →
     (s.tx.callTimer = some i →
       ∃ t, exec .callCadenceTimerExpiry s = .next t ∧ t = { s with tx := t.tx } ∧ t.tx.callTimer = none ∧
         t.tx.queue = s.tx.queue ∧ t.tx.slot.state = s.tx.slot.state ∧ t.tx.sequence = s.tx.sequence ∧
         (idleOpen s → (s.race.own = .attract ∨ s.race.own = .entered) → begun s t .call) ∧
         (¬ idleOpen s ∨ (s.race.own ≠ .attract ∧ s.race.own ≠ .entered) →
           t.tx = { s.tx with callTimer := none })) ∧
     (s.tx.spacingTimer = some i →
       ∃ t, exec .reportSpacingTimerExpiry s = .next t ∧ t = { s with tx := t.tx } ∧ t.tx.spacingTimer = none ∧
         t.tx.queue = s.tx.queue ∧ t.tx.slot.state = s.tx.slot.state ∧ t.tx.sequence = s.tx.sequence ∧
         (∀ v, idleOpen s → s.race.own ≠ .offline → s.tx.slot.state = .unsent v → begun s t .car) ∧
         (¬ idleOpen s ∨ s.race.own = .offline ∨ (∀ v, s.tx.slot.state ≠ .unsent v) →
           t.tx = { s.tx with spacingTimer := none })) ∧
     (s.tx.resendTimer = some i →
       ∃ t, exec .resendTimerExpiry s = .next t ∧ t = { s with tx := t.tx } ∧ t.tx.resendTimer = none ∧
         t.tx.queue = s.tx.queue ∧ t.tx.slot.state = s.tx.slot.state ∧ t.tx.sequence = s.tx.sequence ∧
         (∀ v, idleOpen s → (s.race.own = .finished ∨ s.race.own = .results) → s.tx.slot.state = .sent v →
           begun s t .resend) ∧
         (¬ idleOpen s ∨ (s.race.own ≠ .finished ∧ s.race.own ≠ .results) ∨ (∀ v, s.tx.slot.state ≠ .sent v) →
           t.tx = { s.tx with resendTimer := none }))

/-! ## Peer Table timers and the quality window -/

/-- PRESENCE_TIMER_EXPIRY of a lobby entry: ABSENT, with PEER_GONE (R62). LOST_TIMER_EXPIRY of a GRID, RACING or
FINISHED entry: LOST, with PEER_LOST, and the close where all-done is met (R68, R109, R110), whose stamp, the tick, is
the model's choice (notes/assumptions/42.md). SILENCE_TIMER_EXPIRY (R73). -/
def Obligations.PeerTimersExpire : Prop :=
  (∀ (s : State) (p : Station) (i : Instant), s.currentStands = true → (s.entry p).presenceTimer = some i →
     reached s.tick i = true →
     ((s.entry p).state = .present ∨ (s.entry p).state = .entered ∨ (s.entry p).state = .elsewhere) →
     ∃ t, exec (.presenceTimerExpiry p) s = .next t ∧ t = { s with peers := t.peers, events := t.events } ∧
       t.peers = { s.peers with entries := t.peers.entries } ∧
       t.entry p = { s.entry p with
         state := .absent, lastHeard := none, lastSequence := none, window := [], presenceTimer := none
         lostTimer := none, lobby := none, car := none, finish := none
         display := ⟨0, 0, 0, 0, 0, 0, 0, 0, 0, false, false⟩ } ∧
       (∀ q, q ≠ p → t.entry q = s.entry q) ∧ t.events.enable = s.events.enable ∧
       t.events.records = posted s [⟨.peerGone, p, BitVec.ofNat 16 (peerCode (s.entry p).state), i⟩]) ∧
  (∀ (s : State) (p : Station) (i : Instant), (s.entry p).lostTimer = some i → reached s.tick i = true →
     ((s.entry p).state = .grid ∨ (s.entry p).state = .racing ∨ (s.entry p).state = .finished) →
     ∃ t, exec (.lostTimerExpiry p) s = .next t ∧
       t.entry p = { s.entry p with state := .lost, lostTimer := none } ∧ (∀ q, q ≠ p → t.entry q = s.entry q) ∧
       (s.race.own ≠ .finished → s.currentStands = true →
         t = { s with peers := t.peers, events := t.events } ∧
           t.events.records =
             posted s [⟨.peerLost, p, ((s.entry p).car.elim 0 CarRecord.laps).setWidth 16, i⟩]) ∧
       (∀ r, s.race.own = .finished → s.race.record = some r →
         ((∃ q, inMask r.mask q = true ∧ q ≠ s.own ∧ q ≠ p ∧ ¬ isDone (s.entry q)) →
           t.race = s.race ∧ t.events.records =
             posted s [⟨.peerLost, p, ((s.entry p).car.elim 0 CarRecord.laps).setWidth 16, i⟩]) ∧
         ((∀ q, inMask r.mask q = true → q ≠ s.own → q ≠ p → isDone (s.entry q)) →
           t.race = { s.race with
             own := .results, graceTimer := none, limitTimer := none
             ceilingTimer := some (r.green + 2000000000), results := some (t.resultsFor none) } ∧
           t.events.records =
             posted s [⟨.peerLost, p, ((s.entry p).car.elim 0 CarRecord.laps).setWidth 16, i⟩,
               finalRecord s (t.resultsFor none)]))) ∧
  (∀ (s : State) (i : Instant), s.currentStands = true → s.peers.silenceTimer = some i → reached s.tick i = true →
     (s.peers.heard = true →
       ∃ t, exec .silenceTimerExpiry s = .next t ∧
         t = { s with peers := { s.peers with silenceTimer := none, silent := true }, events := t.events } ∧
         t.events.enable = s.events.enable ∧
         t.events.records = posted s [⟨.linkSilent, s.own,
           BitVec.ofNat 16 (stations.countP fun p => decide (p ≠ s.own) && decide ((s.entry p).state ≠ .absent)),
           i⟩]) ∧
     (s.peers.heard = false →
       exec .silenceTimerExpiry s = .next { s with peers := { s.peers with silenceTimer := none } }))

/-- The quality window: the first frame leaves 15 missed and 1 received; a window of 16 takes g missed positions and one
received and keeps its length; a gap of 15 or more leaves 15 missed and 1 received (R58). -/
def Obligations.QualityWindowShifts : Prop :=
  ∀ (w : List Bool) (n : Byte),
    shiftWindow w none n = List.replicate 15 false ++ [true] ∧
    ∀ l : Byte, w.length = 16 →
      (shiftWindow w (some l) n).length = 16 ∧
      ((n - l - 1).toNat ≤ 15 →
        shiftWindow w (some l) n =
          w.drop ((n - l - 1).toNat + 1) ++ List.replicate (n - l - 1).toNat false ++ [true]) ∧
      (15 ≤ (n - l - 1).toNat → shiftWindow w (some l) n = List.replicate 15 false ++ [true])

/-! ## Race Sequencer timers, closes and results -/

/-- LOBBY_TIMER_EXPIRY in ENTERED: the timer restarts, and a START is queued, or LOBBY_EXTENDED posted, or nothing while
the own proposal is PENDING (R80, R81). A control frame placed with four held: the oldest that is not current leaves with
TX_DROPPED, its kind code as detail, and a drop counted, and the new one joins; an own START that leaves makes the own
proposal NONE (R35, R83). With no work pending before and the line open, the START departs at that event (R34, R40;
notes/assumptions/9.md). The model's choices: the stamp of that TX_DROPPED (notes/assumptions/33.md), and that it is
posted though no event is said to be where a START is queued (R81; notes/assumptions/36.md). -/
def Obligations.LobbyExpiry : Prop :=
  (∀ (s : State) (i : Instant), s.currentStands = true → s.race.lobbyTimer = some i → reached s.tick i = true →
    s.race.own = .entered →
    (s.race.proposal = .pending →
      exec .lobbyTimerExpiry s = .next { s with
        race := { s.race with
          lobbyTimer := some (s.tick + BitVec.ofNat 32 (s.settings.lobbyWindow * 1000000)) } }) ∧
    (s.race.proposal = .none → fieldCount s < s.settings.minField →
      ∃ t, exec .lobbyTimerExpiry s = .next t ∧
        t = { s with
          race := { s.race with
            lobbyTimer := some (s.tick + BitVec.ofNat 32 (s.settings.lobbyWindow * 1000000)) }
          events := t.events } ∧
        t.events.records = posted s [⟨.lobbyExtended, s.own, BitVec.ofNat 16 (fieldCount s), i⟩]) ∧
    (s.race.proposal = .none → s.settings.minField ≤ fieldCount s → s.tx.queue.length < 4 →
      ∃ t, exec .lobbyTimerExpiry s = .next t ∧ t = { s with tx := t.tx, race := t.race } ∧
        t.race = { s.race with
          lobbyTimer := some (s.tick + BitVec.ofNat 32 (s.settings.lobbyWindow * 1000000))
          proposal := .pending } ∧
        t.tx.queue = s.tx.queue ++ [.start] ∧ (idleOpen s → begun s t .start) ∧
        (¬ idleOpen s → t.tx = { s.tx with queue := s.tx.queue ++ [.start] })) ∧
    (∀ left kept, s.race.proposal = .none → s.settings.minField ≤ fieldCount s → overflows s left kept →
      ∃ t, exec .lobbyTimerExpiry s = .next t ∧
        t = { s with
          tx := { s.tx with queue := kept ++ [.start], drops := satInc s.tx.drops }, race := t.race
          events := t.events } ∧
        t.race = { s.race with
          lobbyTimer := some (s.tick + BitVec.ofNat 32 (s.settings.lobbyWindow * 1000000))
          proposal := .pending } ∧
        t.events.enable = s.events.enable ∧ t.events.records = posted s [pushedOut s left])) ∧
  ∀ (s : State) (c : ControlFrame),
    (s.tx.queue.length < 4 → s.placeControl c = { s with tx := { s.tx with queue := s.tx.queue ++ [c] } }) ∧
    ∀ left kept, overflows s left kept →
      (s.placeControl c).tx = { s.tx with queue := kept ++ [c], drops := satInc s.tx.drops } ∧
      (s.placeControl c).events.records = posted s [pushedOut s left] ∧
      (left = .start → (s.placeControl c).race = { s.race with proposal := .none }) ∧
      (left ≠ .start → (s.placeControl c).race = s.race)

/-- LOCK_TIMER_EXPIRY locks the record (R90), RESULTS_CEILING_TIMER_EXPIRY in RESULTS sets the mark (R115), and
GREEN_TIMER_EXPIRY in COUNTDOWN starts the race (R65, R94, R108). -/
def Obligations.LockCeilingAndGreenExpiry : Prop :=
  (∀ (s : State) (i : Instant) (r : RaceRecord), s.currentStands = true → reached s.tick i = true →
     (s.race.lockTimer = some i → s.race.record = some r →
       exec .lockTimerExpiry s = .next { s with
         race := { s.race with lockTimer := none, record := some { r with locked := true } } }) ∧
     (s.race.ceilingTimer = some i → s.race.own = .results →
       exec .resultsCeilingTimerExpiry s = .next { s with
         race := { s.race with ceilingTimer := none, ceilingMark := true } })) ∧
  (∀ (s : State) (i : Instant) (r : RaceRecord), s.race.greenTimer = some i → reached s.tick i = true →
     s.race.own = .countdown → s.race.record = some r →
     ∃ t, exec .greenTimerExpiry s = .next t ∧
       t = { s with tx := t.tx, peers := t.peers, race := t.race, events := t.events } ∧
       t.race = { s.race with
         own := .racing, greenTimer := none, lapCount := 0, lapList := []
         limitTimer := some (r.green + BitVec.ofNat 32 (s.settings.raceLimit * 1000000) + 250000) } ∧
       (∀ p, p ≠ s.own → ((s.entry p).state = .grid ∨ (s.entry p).state = .racing) →
         t.entry p = { s.entry p with
           state := .racing
           lostTimer := some (s.tick + BitVec.ofNat 32 (s.settings.lostTimeout * 1000)) }) ∧
       (∀ p, p = s.own ∨ ((s.entry p).state ≠ .grid ∧ (s.entry p).state ≠ .racing) → t.entry p = s.entry p) ∧
       t.events.records = posted s [⟨.green, s.own, r.mask.setWidth 16, r.green⟩])

/-- GRACE_CLOSE_TIMER_EXPIRY and LIMIT_CLOSE_TIMER_EXPIRY in RACING and FINISHED close the race; the limit close posts
RACE_EXPIRED first (R107, R108, R110). The detail of RESULTS_FINAL is the own rank, the place in the list counted from
1 (R110). That the close instant they are stamped with is the tick of the event is the model's choice
(notes/assumptions/42.md). A resend that the close makes eligible departs at the same event where no work was pending
and the line is open (R34, R38, R40; notes/assumptions/9.md). -/
def Obligations.TimerClosesRace : Prop :=
  (∀ l p, rankIs l p (rankOf l p)) ∧
  ∀ (s : State) (i : Instant) (r : RaceRecord), reached s.tick i = true →
    (s.race.own = .racing ∨ s.race.own = .finished) → s.race.record = some r →
    (∀ e, s.race.graceTimer = some i → s.race.earliest = some e →
      ∃ t l, exec .graceCloseTimerExpiry s = .next t ∧
        t = { s with tx := t.tx, race := t.race, events := t.events } ∧
        t.race = { s.race with
          own := .results, graceTimer := none, limitTimer := none
          ceilingTimer := some (r.green + 2000000000), results := some l } ∧
        l = s.resultsFor (some (e + BitVec.ofNat 32 (s.settings.finishGrace * 1000000))) ∧
        t.events.records = posted s [⟨.resultsFinal, s.own, BitVec.ofNat 16 (rankOf l s.own), s.tick⟩] ∧
        (∀ v, idleOpen s → s.tx.slot.state = .sent v → s.tx.resendTimer = none → begun s t .resend)) ∧
    (s.race.limitTimer = some i →
      ∃ t l, exec .limitCloseTimerExpiry s = .next t ∧
        t = { s with tx := t.tx, race := t.race, events := t.events } ∧
        t.race = { s.race with
          own := .results, graceTimer := none, limitTimer := none
          ceilingTimer := some (r.green + 2000000000), results := some l } ∧
        l = s.resultsFor (some (BitVec.ofNat 32 (s.settings.raceLimit * 1000000))) ∧
        t.events.records = posted s [⟨.raceExpired, s.own,
          BitVec.ofNat 16 (l.countP fun x => decide (x.category = .finished)), s.tick⟩,
          ⟨.resultsFinal, s.own, BitVec.ofNat 16 (rankOf l s.own), s.tick⟩] ∧
        (∀ v, idleOpen s → s.tx.slot.state = .sent v → s.tx.resendTimer = none → begun s t .resend))

/-- The results list: one record for each participant with the category of R111 and the fields of R113, ranked by R114. -/
def Obligations.ResultsListRanked : Prop :=
  ∀ (s : State) (limit : Option (BitVec 32)) (r : RaceRecord), s.race.record = some r →
    (s.resultsFor limit).Pairwise ranksBefore ∧
    (∀ p, (∃ x ∈ s.resultsFor limit, x.station = p) ↔ inMask r.mask p = true) ∧
    ∀ x ∈ s.resultsFor limit,
      x.finish = (s.entry x.station).finish ∧
      x.progress = (s.entry x.station).car.map (fun c => c.car.g) ∧
      (x.category = .finished ↔ ∃ n, (s.entry x.station).finish = some n ∧
        (∀ e, limit = some e → 0 ≤ interval n e)) ∧
      (x.category = .lost ↔ (s.entry x.station).state = .lost ∧ x.station ≠ s.own ∧ x.category ≠ .finished) ∧
      (x.category = .retired ↔
        (s.entry x.station).state = .retired ∧ x.station ≠ s.own ∧ x.category ≠ .finished) ∧
      x.laps = (if x.station = s.own then BitVec.ofNat 8 s.race.lapCount
        else (s.entry x.station).car.elim 0 CarRecord.laps) ∧
      (x.station ≠ s.own ∨ s.race.lapList = [] → x.bestLap = none) ∧
      (x.station = s.own → s.race.lapList ≠ [] →
        ∃ b, x.bestLap = some b ∧ (∃ i, i < s.race.lapList.length ∧ lapTime s.race.lapList i = b) ∧
          ∀ i, i < s.race.lapList.length → b.toNat ≤ (lapTime s.race.lapList i).toNat)

/-! ## Lamp Unit -/

/-- The blink generator: it starts at load completion with phase 0; at its expiry the phase steps, from 7 back to 0, and
the timer is started again from its expiry instant; fast blink is on in even phases, slow blink in phases 0 to 3;
RESTART, GO_OFFLINE and CONFIGURE leave it running, and hardware reset stops it (R151). -/
def Obligations.BlinkGeneratorRuns : Prop :=
  ∀ (s : State) (i : Instant), s.currentStands = true → reached s.tick i = true →
    s.lamp.fastBlink = decide (s.lamp.blinkPhase.val % 2 = 0) ∧
    s.lamp.slowBlink = decide (s.lamp.blinkPhase.val ≤ 3) ∧
    (s.lamp.blinkTimer = some i →
      ∃ t, exec .blinkTimerExpiry s = .next t ∧ t = { s with lamp := t.lamp } ∧
        t.lamp = { s.lamp with blinkPhase := t.lamp.blinkPhase, blinkTimer := some (i + 62500) } ∧
        t.lamp.blinkPhase.val = (s.lamp.blinkPhase.val + 1) % 8) ∧
    (s.cmd.unit = .loading → s.loader.loadTimer = some i →
      ∃ t, exec .loadCompletion s = .next t ∧ t.lamp.blinkPhase = 0 ∧
        t.lamp.blinkTimer = some (s.tick + 62500)) ∧
    (∀ c t, c ∈ [.restart, .goOffline, .configure] → exec c s = .next t →
      t.lamp.blinkTimer = s.lamp.blinkTimer ∧ t.lamp.blinkPhase = s.lamp.blinkPhase) ∧
    ∀ station rate low memory, ∃ t, exec (.hardwareReset station rate low memory) s = .next t ∧
      t.lamp.blinkTimer = none

/-- LAMP_STEP_TIMER_EXPIRY, LAMP_GREEN_TIMER_EXPIRY and HOLD_TIMER_EXPIRY (R152, R154, R155); the governing step, the
program pattern in DARK, SCHEDULED and HOLD (R152), and the schedule of a green instant (R153). At a step timer's expiry
the governing step is decided again by the instants reached at the tick (R2, R154), so that where two steps share an
instant either expiry shows the pattern of the later one, whichever is taken first. With a green hold of 0 a step at green
has no part in the countdown, and green turns the pins off (R155; notes/assumptions/40.md). -/
def Obligations.LampTimersRunProgram : Prop :=
  (∀ (s : State) (i : Instant), s.currentStands = true → reached s.tick i = true →
    (∀ k : Pin, s.lamp.stepTimers.get k = some i →
      ∃ t, exec (.lampStepTimerExpiry k) s = .next t ∧ t = { s with lamp := t.lamp } ∧
        t.lamp = { s.lamp with stepTimers := t.lamp.stepTimers, program := t.lamp.program } ∧
        t.lamp.stepTimers.get k = none ∧ (∀ j, j ≠ k → t.lamp.stepTimers.get j = s.lamp.stepTimers.get j) ∧
        ((∀ green steps g, s.lamp.program ≠ .scheduled green steps g) → t.lamp.program = s.lamp.program) ∧
        ∀ green steps g, s.lamp.program = .scheduled green steps g →
          ∃ h, t.lamp.program = .scheduled green steps h ∧ governedAt s.settings green steps s.tick h) ∧
    (∀ green steps g, s.lamp.greenTimer = some i → s.lamp.program = .scheduled green steps g →
      ∃ t, exec .lampGreenTimerExpiry s = .next t ∧ t = { s with lamp := t.lamp } ∧
        (reached s.tick (green + BitVec.ofNat 32 (s.settings.greenHold * 1000)) = true → dark t.lamp) ∧
        (reached s.tick (green + BitVec.ofNat 32 (s.settings.greenHold * 1000)) = false →
          t.lamp.program = .hold green (stepPattern s.settings (governingStep steps fun _ => true))
            (green + BitVec.ofNat 32 (s.settings.greenHold * 1000)) ∧
          t.lamp.holdTimer = some (green + BitVec.ofNat 32 (s.settings.greenHold * 1000)) ∧
          (∀ j, t.lamp.stepTimers.get j = none) ∧ t.lamp.greenTimer = none)) ∧
    (s.lamp.holdTimer = some i →
      ∃ t, exec .holdTimerExpiry s = .next t ∧ t = { s with lamp := t.lamp } ∧ dark t.lamp ∧
        t.lamp.plain = s.lamp.plain ∧ t.lamp.blinkTimer = s.lamp.blinkTimer)) ∧
  (∀ (steps : Four Instant) (hit : Pin → Bool),
    ((∀ k, hit k = false) → governingStep steps hit = none) ∧
      ∀ k, governs steps hit k → governingStep steps hit = some k) ∧
  (∀ (l : LampUnit) (t : Settings),
    (l.program = .dark → l.pattern t = 0) ∧
    (∀ green pattern holdEnd, l.program = .hold green pattern holdEnd → l.pattern t = pattern) ∧
    ∀ green steps g, l.program = .scheduled green steps g →
      (g = none → l.pattern t = 0) ∧ ∀ k, g = some k → l.pattern t = (t.lampSteps.get k).pattern) ∧
  (∀ (t : Settings) (k : Pin), stepPattern t (some k) = (t.lampSteps.get k).pattern) ∧
  ∀ (l : LampUnit) (t : Settings) (now green : Instant),
    scheduledAt t now green (l.schedule t now green) ∧ (l.schedule t now green).plain = l.plain ∧
      (l.schedule t now green).blinkTimer = l.blinkTimer ∧ (l.schedule t now green).blinkPhase = l.blinkPhase ∧
      ∀ hit : Pin → Bool,
        (∀ j, hit j = true ↔ reached now (green - BitVec.ofNat 32 ((t.lampSteps.get j).offset * 1000)) = true ∧
          ¬ (t.greenHold = 0 ∧ (t.lampSteps.get j).offset = 0)) →
        ((∀ j, hit j = false) → t.inRange → (l.schedule t now green).pattern t = 0) ∧
        (t.inRange → (∃ j, hit j = true) →
          ∃ k, (l.schedule t now green).pattern t = (t.lampSteps.get k).pattern ∧ hit k = true ∧
            ∀ j, hit j = true →
              (t.lampSteps.get k).offset < (t.lampSteps.get j).offset ∨
                ((t.lampSteps.get k).offset = (t.lampSteps.get j).offset ∧ j ≤ k))

/-- What a pin drives: off in LOADING; a PLAIN pin its SET_OUTPUT level (R150); a LAMP pin its bit of the program
pattern, or its fail-safe value in STUCK and DISABLED (R158); a LINK pin the state of the link (R159). -/
def Obligations.PinLevelsFollowFunction : Prop :=
  ∀ (s : State) (p : Pin),
    (s.cmd.unit = .loading → s.pinLevel p = false) ∧
    (s.cmd.unit ≠ .loading →
      (s.settings.functions.get p = .plain → s.pinLevel p = s.lamp.plain.get p) ∧
      (s.settings.functions.get p = .lamp → s.tx.phase ≠ .stuck → s.tx.phase ≠ .disabled →
        s.pinLevel p = (s.lamp.pattern s.settings).getLsbD p.val) ∧
      (s.settings.functions.get p = .lamp → (s.tx.phase = .stuck ∨ s.tx.phase = .disabled) →
        s.pinLevel p = (decide (s.settings.failSafe.get p = .on) ||
          (decide (s.settings.failSafe.get p = .blink) && s.lamp.fastBlink))) ∧
      (s.settings.functions.get p = .link → (s.tx.phase = .stuck ∨ s.tx.phase = .disabled) →
        s.pinLevel p = s.lamp.fastBlink) ∧
      (s.settings.functions.get p = .link → s.tx.phase ≠ .stuck → s.tx.phase ≠ .disabled →
        (s.race.own = .offline → s.pinLevel p = false) ∧
        (s.race.own ≠ .offline → (∀ q, q ≠ s.own → (s.entry q).state = .absent) → s.pinLevel p = s.lamp.slowBlink) ∧
        (∀ q, s.race.own ≠ .offline → q ≠ s.own → (s.entry q).state ≠ .absent → s.pinLevel p = true)))

/-! ## Commands of the game port -/

/-- A code written outside IDLE is discarded and sets COMMAND_LOST, whatever the command; a code taken clears it (R167). -/
def Obligations.CodeOutsideIdleIsLost : Prop :=
  ∀ (s : State) (c : Instr), s.currentStands = true →
    (c ∈ [.configure, .readConfig, .goOnline, .goOffline, .restart, .enter, .cancelEntry, .postCar, .lap, .quit,
        .openImage, .readResults, .ackResults, .readPeer, .readHealth, .setOutput] ∨
      ∃ code, c = .portWrite 0x020 code) →
    (s.cmd.unit ≠ .idle → exec c s = .next { s with cmd := { s.cmd with lost := true } }) ∧
    (s.cmd.unit ≠ .idle → ∀ code,
      exec (.commandLost code) s = .next { s with cmd := { s.cmd with lost := true } }) ∧
    (s.cmd.unit = .idle → ∃ t, exec c s = .next t ∧ t.cmd.lost = false)

/-- A code that names no command completes with BAD_ARGUMENT (R168); a write of a code to the command word runs the command
of that code, or with a code that names none the unknown one, and is lost outside IDLE (R162, R166, R167, R169);
COMMAND_COMPLETION writes the result, the reply length and the whole reply buffer (R165, R166); PORT_WRITE at an argument
address replaces the argument, and a write at a read-only or unnamed address changes nothing (R162, R165). That PORT_WRITE
at the command word does what the command's own row does is the model's choice (notes/assumptions/27.md). -/
def Obligations.CompletionAndUnknownCode : Prop :=
  (∀ (s : State) (code : Word), s.currentStands = true → s.cmd.unit = .idle →
     (code.toNat = 0 ∨ 16 < code.toNat) →
     exec (.unknownCommand code) s = .next { s with cmd := taken s .badArgument [] }) ∧
  (∀ (s : State) (n : Nat) (c : Instr), (n, c) ∈ commandTable →
     exec (.portWrite 0x020 (BitVec.ofNat 16 n)) s = exec c s) ∧
  (∀ (s : State) (code : Word),
     (s.cmd.unit = .idle → (code.toNat = 0 ∨ 16 < code.toNat) →
       exec (.portWrite 0x020 code) s = exec (.unknownCommand code) s) ∧
     (s.cmd.unit ≠ .idle → exec (.portWrite 0x020 code) s = exec (.commandLost code) s)) ∧
  (∀ (s : State) (r : Result) (reply : List Word) (at' : Instant), s.currentStands = true →
     s.cmd.unit = .busy r reply at' → reply.length ≤ 16 →
     ∃ t, exec .commandCompletion s = .next t ∧ t = { s with cmd := t.cmd } ∧
       t.cmd = { s.cmd with unit := .idle, lastResult := r, replyLength := reply.length, reply := t.cmd.reply } ∧
       t.cmd.reply.length = 16 ∧
       ∀ i, i < 16 → t.cmd.reply.getD i 0 = (if i < reply.length then reply.getD i 0 else 0)) ∧
  (∀ (s : State) (value : Word) (address : BitVec 9), s.currentStands = true →
     (address.toNat < 16 →
       exec (.portWrite address value) s =
         .next { s with cmd := { s.cmd with arguments := s.cmd.arguments.set address.toNat value } }) ∧
     (16 ≤ address.toNat → address.toNat ≠ 0x020 → address.toNat ≠ 0x022 → address.toNat ≠ 0x028 →
       exec (.portWrite address value) s = .next s))

/-- EVENT_RELEASE: the head record is removed; on an empty queue nothing happens; the release of a lone OVERFLOW record
ends the overflow (R182). -/
def Obligations.EventReleaseRemovesHead : Prop :=
  ∀ s : State, s.currentStands = true →
    exec .eventRelease s = .next { s with events := { s.events with records := s.events.records.drop 1 } } ∧
    (s.events.records = [] → exec .eventRelease s = .next s) ∧
    (∀ value, exec (.portWrite 0x028 value) s = exec .eventRelease s) ∧
    (∀ x r : EventRecord, s.events.records = [x] → (∀ p, maskPosition r.kind = some p → s.settings.eventMask.getLsbD p = false) →
      postRecord s.settings.eventMask s.own r (s.events.records.drop 1) = [r])

/-- The interrupt enable is set from bit 0 of the value written and read back in bit 0 and in the part half of the status
word; the line is asserted while the queue holds a record and the enable is set; hardware reset clears the enable,
RESTART and GO_OFFLINE keep it (R183). -/
def Obligations.InterruptEnableAndLine : Prop :=
  ∀ (s : State) (value : Word), s.currentStands = true →
    exec (.interruptEnableWrite value) s =
      .next { s with events := { s.events with enable := decide (value.toNat % 2 = 1) } } ∧
    exec (.portWrite 0x022 value) s = exec (.interruptEnableWrite value) s ∧
    s.portRead 0x022 = (if s.events.enable then 1 else 0) ∧
    (s.portRead 0x021).getLsbD 5 = s.events.enable ∧
    (s.interruptAsserted = true ↔ s.events.records ≠ [] ∧ s.events.enable = true) ∧
    (∀ station rate low memory, ∃ t, exec (.hardwareReset station rate low memory) s = .next t ∧
      t.events.enable = false) ∧
    (∀ c t, c ∈ [.restart, .goOffline] → exec c s = .next t → t.events.enable = s.events.enable)

/-- CONFIGURE and READ_CONFIG (R178, R189, R191): their tests; every setting of the group put in force, each brought into
its range, and the others kept; the reply's bit for each word limited, a pin field of 3 counted as limited by the model's
choice (notes/assumptions/18.md); a SET_OUTPUT level kept only where the pin stays PLAIN (R150); every word read back. -/
def Obligations.ConfigureAndReadConfig : Prop :=
  ∀ s : State, s.currentStands = true → s.cmd.unit = .idle →
    (s.race.own ≠ .offline → exec .configure s = .next { s with cmd := taken s .wrongState [] }) ∧
    (s.race.own = .offline → 1 < (argument s 13).toNat →
      exec .configure s = .next { s with cmd := taken s .badArgument [] }) ∧
    (s.race.own = .offline → (argument s 13).toNat ≤ 1 →
      ∃ t m r, exec .configure s = .next t ∧
        t = { s with loader := t.loader, lamp := t.lamp, cmd := taken s r [m] } ∧
        t.loader = { s.loader with settings := t.settings } ∧ t.lamp = { s.lamp with plain := t.lamp.plain } ∧
        (r = .ok ↔ m = 0) ∧ (r = .ok ∨ r = .clamped) ∧
        (∀ p, t.lamp.plain.get p = (s.lamp.plain.get p && decide (s.settings.functions.get p = .plain) &&
          decide (t.settings.functions.get p = .plain))) ∧
        (argument s 13 = 0 →
          t.settings = { s.settings with
            horizon := limited 16 250 (argument s 0), lostTimeout := limited 100 2000 (argument s 1)
            th0 := limited 1 65535 (argument s 2), th1 := limited 1 65535 (argument s 3)
            surfaceMap := (argument s 4).extractLsb' 0 4
            headingThreshold := limited 1 32768 (argument s 5), blendShift := limited 1 6 (argument s 6)
            reportSpacing := limited 4 50 (argument s 7), lobbyWindow := limited 5 60 (argument s 8)
            minField := limited 1 8 (argument s 9), startLead := limited 3000 10000 (argument s 10)
            raceLimit := limited 60 1800 (argument s 11), finishGrace := limited 5 60 (argument s 12)
            eventMask := (argumentPair s 14).extractLsb' 0 24 } ∧
          ∀ n, m.getLsbD n = true ↔
            ∃ lo hi, (n, lo, hi) ∈ groupZeroLimits ∧ limited lo hi (argument s n) ≠ (argument s n).toNat) ∧
        (argument s 13 = 1 →
          t.settings = { s.settings with
            lampSteps := t.settings.lampSteps, greenHold := limited 0 5000 (argument s 8)
            failSafe := t.settings.failSafe, functions := t.settings.functions } ∧
          (∀ k : Pin, (t.settings.lampSteps.get k).offset = limited 0 10000 (argument s (2 * k.val)) ∧
            (t.settings.lampSteps.get k).pattern = (argument s (2 * k.val + 1)).extractLsb' 0 4 ∧
            failSafeFrom (pinCode (argument s 9).toNat k) (t.settings.failSafe.get k) ∧
            functionFrom (pinCode (argument s 10).toNat k) (t.settings.functions.get k)) ∧
          ∀ n, m.getLsbD n = true ↔
            ((n = 0 ∨ n = 2 ∨ n = 4 ∨ n = 6) ∧ 10000 < (argument s n).toNat) ∨
              (n = 8 ∧ 5000 < (argument s n).toNat) ∨
              ((n = 9 ∨ n = 10) ∧ ∃ k : Pin, pinCode (argument s n).toNat k = 3))) ∧
    (1 < (argument s 0).toNat → exec .readConfig s = .next { s with cmd := taken s .badArgument [] }) ∧
    (argument s 0 = 0 →
      ∃ a b, exec .readConfig s = .next { s with
          cmd := taken s .ok [BitVec.ofNat 16 s.settings.horizon, BitVec.ofNat 16 s.settings.lostTimeout,
            BitVec.ofNat 16 s.settings.th0, BitVec.ofNat 16 s.settings.th1, s.settings.surfaceMap.setWidth 16,
            BitVec.ofNat 16 s.settings.headingThreshold, BitVec.ofNat 16 s.settings.blendShift,
            BitVec.ofNat 16 s.settings.reportSpacing, BitVec.ofNat 16 s.settings.lobbyWindow,
            BitVec.ofNat 16 s.settings.minField, BitVec.ofNat 16 s.settings.startLead,
            BitVec.ofNat 16 s.settings.raceLimit, BitVec.ofNat 16 s.settings.finishGrace, s.portRead 0x029, a, b] } ∧
        joinPair s.straps.lowFirst a b = s.settings.eventMask.setWidth 32) ∧
    (argument s 0 = 1 →
      ∃ f g, exec .readConfig s = .next { s with
          cmd := taken s .ok [
            BitVec.ofNat 16 (s.settings.lampSteps.get 0).offset, (s.settings.lampSteps.get 0).pattern.setWidth 16,
            BitVec.ofNat 16 (s.settings.lampSteps.get 1).offset, (s.settings.lampSteps.get 1).pattern.setWidth 16,
            BitVec.ofNat 16 (s.settings.lampSteps.get 2).offset, (s.settings.lampSteps.get 2).pattern.setWidth 16,
            BitVec.ofNat 16 (s.settings.lampSteps.get 3).offset, (s.settings.lampSteps.get 3).pattern.setWidth 16,
            BitVec.ofNat 16 s.settings.greenHold, f, g, if s.loader.defaulted then 1 else 0] } ∧
        f.toNat < 256 ∧ g.toNat < 256 ∧
        ∀ k : Pin, pinCode f.toNat k ≠ 3 ∧ failSafeFrom (pinCode f.toNat k) (s.settings.failSafe.get k) ∧
          pinCode g.toNat k ≠ 3 ∧ functionFrom (pinCode g.toNat k) (s.settings.functions.get k))

/-- GO_ONLINE and GO_OFFLINE. GO_OFFLINE keeps the WITHDRAWs in order, removes a START, and posts no event, but where its
own WITHDRAW pushes a frame out of a full control queue (R35, R50, R74, R96, R173, R174). That this TX_DROPPED is posted is
the model's choice (notes/assumptions/36.md), and so is its stamp (notes/assumptions/33.md). The current frame stays only
if it is a WITHDRAW, and the state is kept but for a BACKOFF without it (R50, R51). With no work pending before and the
line open, the CALL of GO_ONLINE and the WITHDRAW of GO_OFFLINE depart at the event (R34, R40; notes/assumptions/9.md). -/
def Obligations.GoOnlineAndOffline : Prop :=
  ∀ s : State, s.cmd.unit = .idle →
    (s.currentStands = true → s.race.own ≠ .offline →
      exec .goOnline s = .next { s with cmd := taken s .wrongState [] }) ∧
    (s.currentStands = true → s.race.own = .offline → s.tx.phase = .disabled →
      exec .goOnline s = .next { s with cmd := taken s .disabled [] }) ∧
    (s.race.own = .offline → s.tx.phase ≠ .disabled →
      ∃ t, exec .goOnline s = .next t ∧
        t = { s with
          tx := t.tx, race := { s.race with own := .attract }, cmd := taken s .ok []
          peers := { s.peers with silenceTimer := some (s.tick + 1000000), heard := false, silent := false } } ∧
        t.tx.callTimer = none ∧ t.tx.queue = s.tx.queue ∧
        (idleOpen s → s.tx.slot.state = .empty → begun s t .call) ∧
        (s.currentStands = true → s.workPending = true ∨ s.lineOpen = false ∨ s.tx.phase ≠ .ready →
          t.tx = { s.tx with callTimer := none })) ∧
    (s.currentStands = true → s.race.own = .offline →
      exec .goOffline s = .next { s with cmd := taken s .ok [] }) ∧
    (s.race.own ≠ .offline →
      ∃ t, exec .goOffline s = .next t ∧
        t = { s with
          tx := t.tx, race := t.race, peers := t.peers, lamp := t.lamp, events := t.events
          cmd := taken s .ok [] } ∧
        t.race.own = .offline ∧ t.race.entry = none ∧ t.race.lobbyTimer = none ∧ t.race.proposal = .none ∧
        raceless t.race ∧ (∀ p, cleared (t.entry p)) ∧ t.peers.silenceTimer = none ∧ t.peers.heard = false ∧
        t.peers.silent = false ∧ dark t.lamp ∧
        slotEmpty t.tx ∧ t.tx.callTimer = none ∧ ControlFrame.start ∉ t.tx.queue ∧
        t.tx.lastSender = s.tx.lastSender ∧ t.tx.sequence = s.tx.sequence ∧
        (idleOpen s → s.race.own.isRace = true → begun s t (.withdraw 2)) ∧
        (s.workPending = true ∨ s.lineOpen = false ∨ s.tx.phase ≠ .ready ∨ s.race.own.isRace = false →
          t.tx.opportunity = s.tx.opportunity ∧ t.tx.inFlight = s.tx.inFlight ∧
          (s.tx.current = none → t.tx.current = none ∧ t.tx.phase = s.tx.phase) ∧
          ∀ c, s.tx.current = some c →
            ((∃ n, c.source = .withdraw n) → t.tx.current = some c ∧ t.tx.phase = s.tx.phase) ∧
            ((∀ n, c.source ≠ .withdraw n) → t.tx.current = none ∧
              t.tx.phase = if s.tx.phase = .backoff then .ready else s.tx.phase)) ∧
        (s.race.own.isRace = true → s.tx.queue.length < 4 → t.events = s.events ∧ t.tx.drops = s.tx.drops ∧
          t.tx.queue = s.tx.queue.filter (fun c => decide (c ≠ .start)) ++ [.withdraw 2]) ∧
        (∀ left kept, s.race.own.isRace = true → overflows s left kept → t.tx.drops = satInc s.tx.drops ∧
          t.events.enable = s.events.enable ∧ t.events.records = posted s [pushedOut s left] ∧
          t.tx.queue = kept.filter (fun c => decide (c ≠ .start)) ++ [.withdraw 2]) ∧
        (s.race.own.isRace = false → t.events = s.events ∧ t.tx.drops = s.tx.drops ∧
          t.tx.queue = s.tx.queue.filter (fun c => decide (c ≠ .start))))

/-- RESTART: what it returns to reset values, and what it keeps (R50, R97, R175). A frame SENDING at it goes on being read
back (R50). With a WITHDRAW queued the Transmitter shows DEFER, by the model's choice (notes/assumptions/10.md). -/
def Obligations.RestartKeepsAndResets : Prop :=
  ∀ s : State, s.cmd.unit = .idle →
    ∃ t, exec .restart s = .next t ∧
      t = { s with
        rx := { s.rx with goodFrames := 0, crcErrors := 0 }
        tx := t.tx, peers := t.peers, race := t.race, image := ⟨.free, .free, .free, none⟩, lamp := t.lamp
        events := { s.events with records := [] }, cmd := taken s .ok [] } ∧
      t.tx.queue = (if s.race.own.isRace then [.withdraw 3] else []) ∧ slotEmpty t.tx ∧
      t.tx.callTimer = none ∧ t.tx.lastSender = s.own ∧ t.tx.sequence = 0 ∧ t.tx.phase = .ready ∧
      t.tx.current = none ∧ t.tx.opportunity = none ∧
      t.tx.crossing = (s.tx.crossing || decide (s.tx.phase = .sending)) ∧
      t.txState = (if s.race.own.isRace then .defer else .idle) ∧
      t.tx.stuckWatch = (if s.rx.monitor = .busy then some (s.tick + 20000) else none) ∧
      t.tx.framesSent = 0 ∧ t.tx.collisions = 0 ∧ t.tx.drops = 0 ∧ t.tx.backoffSeed = s.tx.backoffSeed ∧
      t.tx.backoffPlace = s.tx.backoffPlace ∧ (∀ p, cleared (t.entry p)) ∧ t.peers.silenceTimer = none ∧
      t.peers.heard = false ∧ t.peers.silent = false ∧ t.race.own = .offline ∧ t.race.entry = none ∧
      t.race.lobbyTimer = none ∧ t.race.proposal = .none ∧ t.tx.inFlight = none ∧ raceless t.race ∧ dark t.lamp ∧
      (∀ p, t.lamp.plain.get p = false) ∧ t.lamp.blinkTimer = s.lamp.blinkTimer ∧
      t.lamp.blinkPhase = s.lamp.blinkPhase ∧ t.interruptAsserted = false

/-- ENTER and CANCEL_ENTRY (R78, R79). A START that is SENDING at CANCEL_ENTRY finishes on the line and is no longer the
current frame (R35). The CALL that each makes due departs at the event where no work was pending and the line is open
(R34, R37, R40; notes/assumptions/9.md). -/
def Obligations.EnterAndCancelEntry : Prop :=
  ∀ s : State, s.cmd.unit = .idle →
    (s.currentStands = true → s.race.own ≠ .attract →
      exec .enter s = .next { s with cmd := taken s .wrongState [] }) ∧
    (s.currentStands = true → s.race.own = .attract → argument s 1 = 0 →
      exec .enter s = .next { s with cmd := taken s .badArgument [] }) ∧
    (s.race.own = .attract → argument s 1 ≠ 0 →
      ∃ t, exec .enter s = .next t ∧
        t = { s with
          tx := t.tx
          race := { s.race with
            own := .entered
            entry := some ⟨argument s 0, BitVec.ofNat 8 (min (argument s 1).toNat 99)⟩
            lobbyTimer := some (s.tick + BitVec.ofNat 32 (s.settings.lobbyWindow * 1000000))
            proposal := t.race.proposal }
          cmd := taken s (if (argument s 1).toNat ≤ 99 then .ok else .clamped) [] } ∧
        t.tx.callTimer = none ∧ t.tx.queue = s.tx.queue ∧ t.race.proposal = .none ∧
        (idleOpen s → begun s t .call) ∧
        (s.currentStands = true → ¬ idleOpen s → t.tx = { s.tx with callTimer := none })) ∧
    (s.currentStands = true → s.race.own ≠ .entered →
      exec .cancelEntry s = .next { s with cmd := taken s .wrongState [] }) ∧
    (s.race.own = .entered →
      ∃ t, exec .cancelEntry s = .next t ∧
        t = { s with
          tx := t.tx
          race := { s.race with own := .attract, entry := none, lobbyTimer := none, proposal := .none }
          cmd := taken s .ok [] } ∧
        t.tx.callTimer = none ∧ (s.race.proposal = .pending → ControlFrame.start ∉ t.tx.queue) ∧
        (∀ c, s.race.proposal = .pending → s.tx.phase = .sending → s.tx.current = some c → c.source = .start →
          t.tx.phase = .sending ∧ t.tx.inFlight = s.tx.inFlight ∧ t.tx.current = none) ∧
        (idleOpen s → begun s t .call) ∧
        (s.race.proposal = .none → t.tx.queue = s.tx.queue ∧
          (s.currentStands = true → ¬ idleOpen s → t.tx = { s.tx with callTimer := none })))

/-- POST_CAR: its tests, and the car, value by value, written into the own entry and the CAR slot (R119, R170 to R172);
and the lookup of a frame number in the frame history (R14). The CAR departs at the event where no work was pending, the
line is open and the report spacing is over (R34, R38, R40; notes/assumptions/9.md). -/
def Obligations.PostCarStoresCar : Prop :=
  (∀ (s : State) (n : Word),
    (s.lookupFrame n = none ↔ ∀ e ∈ s.frame.history, e.number ≠ n) ∧
      ∀ c, s.lookupFrame n = some c → ⟨n, c⟩ ∈ s.frame.history) ∧
  ∀ s : State, s.cmd.unit = .idle →
    (s.currentStands = true → s.race.own ≠ .countdown → s.race.own ≠ .racing → s.race.own ≠ .finished →
      exec .postCar s = .next { s with cmd := taken s .wrongState [] }) ∧
    (s.currentStands = true → racing s → 3 < (argument s 15).toNat →
      exec .postCar s = .next { s with cmd := taken s .badArgument [] }) ∧
    (s.currentStands = true → racing s → (argument s 15).toNat ≤ 3 →
      s.lookupFrame (argument s 0) = none →
      exec .postCar s = .next { s with cmd := taken s .staleFrame [] }) ∧
    (∀ capture r n, s.currentStands = true → racing s → (argument s 15).toNat ≤ 3 →
      s.lookupFrame (argument s 0) = some capture → (s.entry s.own).car = some r → r.heldFrame = some n →
      0 < (n - argument s 0).toInt → exec .postCar s = .next { s with cmd := taken s .staleFrame [] }) ∧
    (∀ capture, racing s → (argument s 15).toNat ≤ 3 →
      s.lookupFrame (argument s 0) = some capture →
      (∀ r n, (s.entry s.own).car = some r → r.heldFrame = some n → (n - argument s 0).toInt ≤ 0) →
      ∃ t m r, exec .postCar s = .next t ∧
        t = { s with tx := t.tx, peers := t.peers, cmd := taken s (if m = 0 then .ok else .clamped) [m] } ∧
        t.peers = { s.peers with entries := t.peers.entries } ∧ (∀ p, p ≠ s.own → t.entry p = s.entry p) ∧
        t.entry s.own = { s.entry s.own with
          car := some ⟨r, BitVec.ofNat 8 s.race.lapCount, (s.entry s.own).finish.isSome, some (argument s 0)⟩ } ∧
        t.tx.slot.state = .unsent r ∧ t.tx.slot.finishMark = s.tx.slot.finishMark ∧ t.tx.queue = s.tx.queue ∧
        (idleOpen s → s.tx.spacingTimer = none → begun s t .car) ∧
        (s.currentStands = true → ¬ idleOpen s ∨ s.tx.spacingTimer ≠ none →
          t.tx = { s.tx with slot := ⟨.unsent r, s.tx.slot.finishMark, true⟩ }) ∧
        r.sample = capture ∧ r.x.toInt = max (-8388608) (min 8388607 (argumentPair s 1).toInt) ∧
        r.y.toInt = max (-8388608) (min 8388607 (argumentPair s 3).toInt) ∧
        r.z.toInt = max (-8388608) (min 8388607 (argumentPair s 5).toInt) ∧
        r.vx = takenRate (argument s 7) ∧ r.vy = takenRate (argument s 8) ∧ r.vz = takenRate (argument s 9) ∧
        r.h = argument s 10 ∧ r.w = takenRate (argument s 11) ∧ r.g = argumentPair s 12 ∧
        r.q = takenRate (argument s 14) ∧ surfaceCode r.surface = (argument s 15).toNat ∧
        (m.getLsbD 0 = true ↔ r.x.toInt ≠ (argumentPair s 1).toInt) ∧
        (m.getLsbD 1 = true ↔ r.y.toInt ≠ (argumentPair s 3).toInt) ∧
        (m.getLsbD 2 = true ↔ r.z.toInt ≠ (argumentPair s 5).toInt) ∧ m.toNat < 8)

/-- LAP: its tests in order, and the crossing stamp (R99 to R101); an accepted LAP that does not finish the race
(R102); the LAP that completes the race, with its finish (R103, R107), when no close follows, when the grace close
instant is already reached (R107, R110), and when all-done is met (R109, R110). That the grace end comes before
all-done is the model's choice (notes/assumptions/24.md), and so is the tick of the LAP as the stamp of RESULTS_FINAL
(notes/assumptions/42.md). A resend that the finish makes eligible departs at the event where no work was pending and
the line is open (R34, R38, R40; notes/assumptions/9.md). -/
def Obligations.LapCountsAndFinishes : Prop :=
  ∀ s : State, s.cmd.unit = .idle → s.currentStands = true →
    (s.race.own ≠ .racing → exec .lap s = .next { s with cmd := taken s .wrongState [] }) ∧
    (s.race.own = .racing → 255 < (argument s 1).toNat →
      exec .lap s = .next { s with cmd := taken s .badArgument [] }) ∧
    (s.race.own = .racing → (argument s 1).toNat ≤ 255 → s.lookupFrame (argument s 0) = none →
      exec .lap s = .next { s with cmd := taken s .staleFrame [] }) ∧
    ∀ (r : RaceRecord) (c stamp : Instant) (length : Nat) (finish : BitVec 32) (grace : Instant) (first : Bool),
      s.race.own = .racing → (argument s 1).toNat ≤ 255 →
      s.race.record = some r → s.lookupFrame (argument s 0) = some c →
      ((∃ d, s.lookupFrame (argument s 0 + 1) = some d ∧ length = (d - c).toNat) ∨
        (s.lookupFrame (argument s 0 + 1) = none ∧ ∃ d, s.frame.period = some d ∧ length = d.toNat) ∨
        (s.lookupFrame (argument s 0 + 1) = none ∧ s.frame.period = none ∧ length = 0)) →
      (0 < interval s.tick (c + BitVec.ofNat 32 ((argument s 1).toNat * length / 256)) → stamp = s.tick) →
      (interval s.tick (c + BitVec.ofNat 32 ((argument s 1).toNat * length / 256)) ≤ 0 →
        stamp = c + BitVec.ofNat 32 ((argument s 1).toNat * length / 256)) →
      finish = stamp - r.green →
      grace = stamp + BitVec.ofNat 32 (s.settings.finishGrace * 1000000) + 250000 →
      first = s.race.earliest.all (fun e => decide (finish.toNat < e.toNat)) →
      (interval r.green stamp ≤ 0 → exec .lap s = .next { s with cmd := taken s .early [] }) ∧
      (∀ last, 0 < interval r.green stamp → s.race.lapList.getLast? = some last → (finish - last).toInt < 1000000 →
        exec .lap s = .next { s with cmd := taken s .tooSoon [] }) ∧
      (0 < interval r.green stamp →
        (∀ last, s.race.lapList.getLast? = some last → 1000000 ≤ (finish - last).toInt) →
        ∃ t, exec .lap s = .next t ∧
          t = { s with tx := t.tx, peers := t.peers, race := t.race, events := t.events, cmd := taken s .ok [] } ∧
          t.race.lapCount = s.race.lapCount + 1 ∧ t.race.lapList = s.race.lapList ++ [finish] ∧
          (s.race.lapCount + 1 ≠ r.race.laps.toNat →
            t.tx = s.tx ∧ t.peers = s.peers ∧
            t.race = { s.race with
              lapCount := s.race.lapCount + 1, lapList := s.race.lapList ++ [finish] } ∧
            t.events.records = posted s [⟨.ownLap, s.own,
              BitVec.ofNat 16 (min 65535 ((finish - s.race.lapList.getLast?.getD 0).toNat / 10000)), stamp⟩]) ∧
          (∀ records, s.race.lapCount + 1 = r.race.laps.toNat →
            records = [⟨.ownLap, s.own,
                BitVec.ofNat 16 (min 65535 ((finish - s.race.lapList.getLast?.getD 0).toNat / 10000)), stamp⟩,
              ⟨.ownFinished, s.own, BitVec.ofNat 16 (s.race.lapCount + 1), stamp⟩] →
            t.entry s.own = { s.entry s.own with finish := some finish } ∧
            (∀ p, p ≠ s.own → t.entry p = s.entry p) ∧ t.tx.slot.finishMark = true ∧
            t.tx.slot.state = s.tx.slot.state ∧
            (∀ v, idleOpen s → s.tx.slot.state = .sent v → s.tx.resendTimer = none → begun s t .resend) ∧
            t.race.earliest = (if first then some finish else s.race.earliest) ∧
            (first = false ∨ reached s.tick grace = false →
              (∃ p, inMask r.mask p = true ∧ p ≠ s.own ∧ ¬ isDone (s.entry p)) →
              t.race = { s.race with
                own := .finished, lapCount := s.race.lapCount + 1, lapList := s.race.lapList ++ [finish]
                earliest := if first then some finish else s.race.earliest
                graceTimer := if first then some grace else s.race.graceTimer } ∧
              t.events.records = posted s records) ∧
            (first = true → reached s.tick grace = true →
              t.race.own = .results ∧
              t.race.results =
                some (t.resultsFor (some (finish + BitVec.ofNat 32 (s.settings.finishGrace * 1000000)))) ∧
              t.events.records = posted s (records ++ [finalRecord s
                (t.resultsFor (some (finish + BitVec.ofNat 32 (s.settings.finishGrace * 1000000))))])) ∧
            (first = false ∨ reached s.tick grace = false →
              (∀ p, inMask r.mask p = true → p ≠ s.own → isDone (s.entry p)) →
              t.race.own = .results ∧ t.race.results = some (t.resultsFor none) ∧
              t.events.records = posted s (records ++ [finalRecord s (t.resultsFor none)]))))

/-- QUIT and ACK_RESULTS: this station leaves its race for ATTRACT; QUIT queues a WITHDRAW first, which pushes the oldest
control frame that is not current out of a full queue (R35, R72, R89, R95, R117). The model's choices: the stamp of that
TX_DROPPED (notes/assumptions/33.md), that it comes before PEER_GONE and that several PEER_GONE come in rising station
order (notes/assumptions/16.md), the stamp of PEER_GONE
(notes/assumptions/15.md), and that ACK_RESULTS posts PEER_GONE for a LOST participant (notes/assumptions/35.md). With no
work pending before and the line open, the WITHDRAW of QUIT and the CALL after ACK_RESULTS depart at the event (R34, R40;
notes/assumptions/9.md). -/
def Obligations.QuitAndAckLeaveRace : Prop :=
  ∀ s : State, s.cmd.unit = .idle →
    (s.currentStands = true → ¬ racing s →
      exec .quit s = .next { s with cmd := taken s .wrongState [] }) ∧
    (s.currentStands = true → s.race.own ≠ .results →
      exec .ackResults s = .next { s with cmd := taken s .wrongState [] }) ∧
    ∀ c : Instr, ((c = .quit ∧ racing s) ∨ (c = .ackResults ∧ s.race.own = .results)) →
      ∃ t, exec c s = .next t ∧
        t = { s with
          tx := t.tx, race := t.race, peers := t.peers, lamp := t.lamp, events := t.events
          cmd := taken s .ok [] } ∧
        t.race.own = .attract ∧ t.race.entry = none ∧ t.race.proposal = .none ∧ raceless t.race ∧
        slotEmpty t.tx ∧ t.tx.callTimer = none ∧ dark t.lamp ∧ (c = .quit → ControlFrame.withdraw 1 ∈ t.tx.queue) ∧
        (idleOpen s → c = .quit → begun s t (.withdraw 1)) ∧ (idleOpen s → c = .ackResults → begun s t .call) ∧
        (c = .ackResults → t.tx.queue = s.tx.queue ∧
          t.events.records = posted s (gone s (fun _ => true) s.tick)) ∧
        (c = .quit → s.tx.queue.length < 4 → t.tx.queue = s.tx.queue ++ [.withdraw 1] ∧
          t.events.records = posted s (gone s (fun _ => true) s.tick)) ∧
        (∀ left kept, c = .quit → overflows s left kept → t.tx.queue = kept ++ [.withdraw 1] ∧
          t.tx.drops = satInc s.tx.drops ∧
          t.events.records = posted s (pushedOut s left :: gone s (fun _ => true) s.tick)) ∧
        (t.entry s.own).car = none ∧ (t.entry s.own).finish = none ∧
        (∀ p, p ≠ s.own → (s.entry p).state.isRace = false → t.entry p = s.entry p) ∧
        (∀ p, p ≠ s.own → (s.entry p).state = .lost → (t.entry p).state = .absent) ∧
        (∀ p, p ≠ s.own → (s.entry p).state.isRace = true → (s.entry p).state ≠ .lost →
          (s.entry p).lastHeard.isSome = true →
          (t.entry p).state = .present ∧ (t.entry p).presenceTimer = some (s.tick + 1000000) ∧
            (t.entry p).car = none ∧ (t.entry p).finish = none ∧ (t.entry p).lobby = (s.entry p).lobby) ∧
        (∀ p, p ≠ s.own → (s.entry p).state.isRace = true → (s.entry p).lastHeard = none →
          (t.entry p).state = .absent)

/-- READ_RESULTS (R116) and READ_PEER (R176): their tests and their replies; which codes are those of race states (R53,
R77). That finish race time, progress and best lap stand at bits 0, 1 and 2 of the presence word is the model's choice
(notes/assumptions/41.md). -/
def Obligations.ReadResultsAndPeerReplies : Prop :=
  (∀ e : EntryState, e.isRace = true ↔ 4 ≤ peerCode e) ∧ (∀ o : OwnState, o.isRace = true ↔ 3 ≤ ownCode o) ∧
  ∀ s : State, s.currentStands = true → s.cmd.unit = .idle →
    (7 < (argument s 0).toNat → exec .readPeer s = .next { s with cmd := taken s .badArgument [] }) ∧
    (∀ p : Station, (argument s 0).toNat = p.val →
      ∃ w, exec .readPeer s = .next { s with cmd := taken s .ok w } ∧ w.length = 7 ∧
        w.getD 0 0 = BitVec.ofNat 16 (if p = s.own then ownCode s.race.own else peerCode (s.entry p).state) ∧
        ((w.getD 1 0).getLsbD 0 = (lobbyShown s p).isSome ∧
          (w.getD 1 0).getLsbD 1 = (s.entry p).lastHeard.isSome ∧
          (w.getD 1 0).getLsbD 2 = (s.entry p).car.isSome ∧ (w.getD 1 0).getLsbD 3 = (s.entry p).finish.isSome ∧
          (w.getD 1 0).getLsbD 4 = (s.entry p).raceFlag ∧ (w.getD 1 0).getLsbD 5 = (s.entry p).dnf ∧
          (w.getD 1 0).getLsbD 6 = (s.entry p).resend ∧ (w.getD 1 0).getLsbD 7 = decide (p = s.own) ∧
          ∀ n, 8 ≤ n → (w.getD 1 0).getLsbD n = false) ∧
        w.getD 2 0 = (lobbyShown s p).elim 0 LobbyInfo.signature ∧
        w.getD 3 0 = (lobbyShown s p).elim 0 (fun l => l.laps.setWidth 16) ∧
        w.getD 4 0 = BitVec.ofNat 16 ((s.entry p).window.count true) ∧
        joinPair s.straps.lowFirst (w.getD 5 0) (w.getD 6 0) = (s.entry p).lastHeard.getD 0) ∧
    (s.race.own ≠ .finished → s.race.own ≠ .results →
      exec .readResults s = .next { s with cmd := taken s .wrongState [] }) ∧
    ∀ l : List ResultRecord,
      ((s.race.own = .results ∧ s.race.results = some l) ∨ (s.race.own = .finished ∧ l = s.resultsFor none)) →
      ((argument s 0 = 0 ∨ l.length < (argument s 0).toNat) →
        exec .readResults s = .next { s with cmd := taken s .badArgument [] }) ∧
      ∀ r, argument s 0 ≠ 0 → l[(argument s 0).toNat - 1]? = some r →
        ∃ w, exec .readResults s = .next { s with cmd := taken s .ok w } ∧ w.length = 13 ∧
          w.getD 0 0 = BitVec.ofNat 16 l.length ∧
          w.getD 1 0 = (if s.race.own = .results then 1 else 0) ∧ w.getD 2 0 = argument s 0 ∧
          w.getD 3 0 = BitVec.ofNat 16 r.station.val ∧ w.getD 4 0 = BitVec.ofNat 16 (categoryCode r.category) ∧
          ((w.getD 5 0).getLsbD 0 = r.finish.isSome ∧ (w.getD 5 0).getLsbD 1 = r.progress.isSome ∧
            (w.getD 5 0).getLsbD 2 = r.bestLap.isSome ∧ ∀ n, 3 ≤ n → (w.getD 5 0).getLsbD n = false) ∧
          joinPair s.straps.lowFirst (w.getD 6 0) (w.getD 7 0) = r.finish.getD 0 ∧
          joinPair s.straps.lowFirst (w.getD 8 0) (w.getD 9 0) = r.progress.getD 0 ∧
          w.getD 10 0 = r.laps.setWidth 16 ∧
          joinPair s.straps.lowFirst (w.getD 11 0) (w.getD 12 0) = r.bestLap.getD 0

/-- READ_HEALTH completes with OK in every own race state; its reply is the five counters, which it sets to 0 (R177). -/
def Obligations.ReadHealthClears : Prop :=
  ∀ s : State, s.currentStands = true → s.cmd.unit = .idle →
    exec .readHealth s = .next { s with
      rx := { s.rx with goodFrames := 0, crcErrors := 0 }
      tx := { s.tx with collisions := 0, drops := 0, framesSent := 0 }
      cmd := taken s .ok
        [s.rx.goodFrames, s.rx.crcErrors, s.tx.collisions, s.tx.drops, s.tx.framesSent] }

/-- SET_OUTPUT: its tests in order; every answer carries the pin levels, bit n for Pn, bits 15 to 4 read as 0 (R160). -/
def Obligations.SetOutputDrivesPlainPin : Prop :=
  (∀ s : State, (∀ n : Pin, s.pinWord.getLsbD n.val = s.pinLevel n) ∧ ∀ n, 4 ≤ n → s.pinWord.getLsbD n = false) ∧
  ∀ s : State, s.currentStands = true → s.cmd.unit = .idle →
    (3 < (argument s 0).toNat →
      exec .setOutput s = .next { s with cmd := taken s .badArgument [s.pinWord] }) ∧
    ∀ p : Pin, (argument s 0).toNat = p.val →
      (s.settings.functions.get p ≠ .plain →
        exec .setOutput s = .next { s with cmd := taken s .wrongState [s.pinWord] }) ∧
      (s.settings.functions.get p = .plain → 1 < (argument s 1).toNat →
        exec .setOutput s = .next { s with cmd := taken s .badArgument [s.pinWord] }) ∧
      (s.settings.functions.get p = .plain → (argument s 1).toNat ≤ 1 →
        ∃ t, exec .setOutput s = .next t ∧
          t = { s with
            lamp := { s.lamp with plain := t.lamp.plain }
            cmd := taken s .ok [t.pinWord] } ∧
          t.lamp.plain.get p = decide (argument s 1 = 1) ∧
          (∀ q, q ≠ p → t.lamp.plain.get q = s.lamp.plain.get q) ∧
          t.pinWord.getLsbD p.val = decide (argument s 1 = 1))

/-! ## The Event Queue and what the port shows -/

/-- A post at the Event Queue (R181), masked at the position of its kind (R180). -/
def Obligations.EventPostRule : Prop :=
  ∀ (mask : BitVec 24) (own : Station) (r : EventRecord) (q : List EventRecord),
    (∀ p, maskPosition r.kind = some p → mask.getLsbD p = true → postRecord mask own r q = q) ∧
    ((∀ p, maskPosition r.kind = some p → mask.getLsbD p = false) →
      ((∀ x ∈ q, x.kind ≠ .overflow) → q.length < 31 → postRecord mask own r q = q ++ [r]) ∧
      ((∀ x ∈ q, x.kind ≠ .overflow) → q.length = 31 →
        postRecord mask own r q = q ++ [⟨.overflow, own, 1, r.stamp⟩]) ∧
      (∀ rest n p a, q = rest ++ [⟨.overflow, p, n, a⟩] → (∀ x ∈ rest, x.kind ≠ .overflow) →
        postRecord mask own r q = rest ++ [⟨.overflow, p, if n = 65535 then 65535 else n + 1, a⟩]))

/-- What the port shows: the argument and reply buffers, the two halves of the status word field by field, the event
head with the code of its kind, the interrupt enable and the straps; an address the map does not name reads 0 (R141, R162,
R164, R165, R179, R180, R183). The reply length is shown whole while it is at most 16, which every step keeps. That IDLE and DEFER follow from whether work is pending in every state is the model's
choice (notes/assumptions/10.md). -/
def Obligations.PortShowsStatusAndEvents : Prop :=
  ∀ s : State,
    (∀ i, i < 16 → s.portRead (BitVec.ofNat 9 i) = s.cmd.arguments.getD i 0 ∧
      s.portRead (BitVec.ofNat 9 (16 + i)) = s.cmd.reply.getD i 0) ∧
    (∀ n, (0x02A ≤ n ∧ n < 0x100) ∨ (0x180 ≤ n ∧ n < 0x200) → s.portRead (BitVec.ofNat 9 n) = 0) ∧
    s.portRead 0x020 = s.cmd.statusWord ∧ s.portRead 0x028 = 0 ∧
    (s.portRead 0x020).toNat % 4 = unitCode s.cmd.unit ∧
    (s.portRead 0x020).toNat / 4 % 16 = resultCode s.cmd.lastResult ∧
    (s.cmd.coherent → (s.portRead 0x020).toNat / 64 % 32 = s.cmd.replyLength ∧
      (s.portRead 0x020).getLsbD 11 = s.cmd.lost ∧ ∀ n, 12 ≤ n → (s.portRead 0x020).getLsbD n = false) ∧
    (s.portRead 0x021).getLsbD 0 = s.loader.defaulted ∧
    (s.portRead 0x021).getLsbD 1 = decide (s.frame.input = .present) ∧
    ((s.portRead 0x021).toNat / 4 % 8 = ownCode s.race.own) ∧
    (s.portRead 0x021).getLsbD 5 = s.events.enable ∧
    ((s.portRead 0x021).toNat / 64 % 8 = txCode s) ∧
    (∀ n, 9 ≤ n → (s.portRead 0x021).getLsbD n = false) ∧
    s.portRead 0x022 = (if s.events.enable then 1 else 0) ∧
    s.portRead 0x023 = BitVec.ofNat 16 s.events.records.length ∧
    (s.events.records = [] → s.portRead 0x024 = 0 ∧ s.portRead 0x025 = 0 ∧ s.portRead 0x026 = 0 ∧
      s.portRead 0x027 = 0) ∧
    (∀ r rest, s.events.records = r :: rest →
      s.portRead 0x024 = BitVec.ofNat 16 (eventCode r.kind + 256 * r.station.val) ∧ s.portRead 0x025 = r.detail ∧
      joinPair s.straps.lowFirst (s.portRead 0x026) (s.portRead 0x027) = r.stamp) ∧
    (s.portRead 0x029).toNat =
      s.straps.station.val + 8 * s.straps.rate.val + (if s.straps.lowFirst then 32 else 0) ∧
    (s.interruptAsserted = true ↔ s.events.records ≠ [] ∧ s.events.enable = true)
end

