-- ==== Sys2Proof/Laws/State.lean ====
section
/-! SUPPORT. One lemma for each field of the state under each update of a block, and for what is read through one. -/

namespace Sys2Proof.Machine

/-! ## State.setTick -/

@[simp] theorem State.tick_setTick (s : State) (x : Instant) : (s.setTick x).tick = x := rfl
@[simp] theorem State.straps_setTick (s : State) (x : Instant) : (s.setTick x).straps = s.straps := rfl
@[simp] theorem State.loader_setTick (s : State) (x : Instant) : (s.setTick x).loader = s.loader := rfl
@[simp] theorem State.frame_setTick (s : State) (x : Instant) : (s.setTick x).frame = s.frame := rfl
@[simp] theorem State.rx_setTick (s : State) (x : Instant) : (s.setTick x).rx = s.rx := rfl
@[simp] theorem State.tx_setTick (s : State) (x : Instant) : (s.setTick x).tx = s.tx := rfl
@[simp] theorem State.peers_setTick (s : State) (x : Instant) : (s.setTick x).peers = s.peers := rfl
@[simp] theorem State.race_setTick (s : State) (x : Instant) : (s.setTick x).race = s.race := rfl
@[simp] theorem State.image_setTick (s : State) (x : Instant) : (s.setTick x).image = s.image := rfl
@[simp] theorem State.lamp_setTick (s : State) (x : Instant) : (s.setTick x).lamp = s.lamp := rfl
@[simp] theorem State.cmd_setTick (s : State) (x : Instant) : (s.setTick x).cmd = s.cmd := rfl
@[simp] theorem State.events_setTick (s : State) (x : Instant) : (s.setTick x).events = s.events := rfl
@[simp] theorem State.free_setTick (s : State) (x : Instant) : (s.setTick x).free = s.free := rfl
@[simp] theorem State.pending_setTick (s : State) (x : Instant) : (s.setTick x).pending = s.pending := rfl
@[simp] theorem State.own_setTick (s : State) (x : Instant) : (s.setTick x).own = s.own := rfl
@[simp] theorem State.settings_setTick (s : State) (x : Instant) : (s.setTick x).settings = s.settings := rfl
@[simp] theorem State.entry_setTick (s : State) (x : Instant) (p : Station) : (s.setTick x).entry p = s.entry p := rfl

/-! ## State.setStraps -/

@[simp] theorem State.tick_setStraps (s : State) (x : Straps) : (s.setStraps x).tick = s.tick := rfl
@[simp] theorem State.straps_setStraps (s : State) (x : Straps) : (s.setStraps x).straps = x := rfl
@[simp] theorem State.loader_setStraps (s : State) (x : Straps) : (s.setStraps x).loader = s.loader := rfl
@[simp] theorem State.frame_setStraps (s : State) (x : Straps) : (s.setStraps x).frame = s.frame := rfl
@[simp] theorem State.rx_setStraps (s : State) (x : Straps) : (s.setStraps x).rx = s.rx := rfl
@[simp] theorem State.tx_setStraps (s : State) (x : Straps) : (s.setStraps x).tx = s.tx := rfl
@[simp] theorem State.peers_setStraps (s : State) (x : Straps) : (s.setStraps x).peers = s.peers := rfl
@[simp] theorem State.race_setStraps (s : State) (x : Straps) : (s.setStraps x).race = s.race := rfl
@[simp] theorem State.image_setStraps (s : State) (x : Straps) : (s.setStraps x).image = s.image := rfl
@[simp] theorem State.lamp_setStraps (s : State) (x : Straps) : (s.setStraps x).lamp = s.lamp := rfl
@[simp] theorem State.cmd_setStraps (s : State) (x : Straps) : (s.setStraps x).cmd = s.cmd := rfl
@[simp] theorem State.events_setStraps (s : State) (x : Straps) : (s.setStraps x).events = s.events := rfl
@[simp] theorem State.free_setStraps (s : State) (x : Straps) : (s.setStraps x).free = s.free := rfl
@[simp] theorem State.pending_setStraps (s : State) (x : Straps) : (s.setStraps x).pending = s.pending := rfl
@[simp] theorem State.settings_setStraps (s : State) (x : Straps) : (s.setStraps x).settings = s.settings := rfl
@[simp] theorem State.entry_setStraps (s : State) (x : Straps) (p : Station) : (s.setStraps x).entry p = s.entry p := rfl
@[simp] theorem State.start_setStraps (s : State) (x : Straps) (d : Instant) : (s.setStraps x).start d = s.start d := rfl

/-! ## State.setLoader -/

@[simp] theorem State.tick_setLoader (s : State) (x : Loader) : (s.setLoader x).tick = s.tick := rfl
@[simp] theorem State.straps_setLoader (s : State) (x : Loader) : (s.setLoader x).straps = s.straps := rfl
@[simp] theorem State.loader_setLoader (s : State) (x : Loader) : (s.setLoader x).loader = x := rfl
@[simp] theorem State.frame_setLoader (s : State) (x : Loader) : (s.setLoader x).frame = s.frame := rfl
@[simp] theorem State.rx_setLoader (s : State) (x : Loader) : (s.setLoader x).rx = s.rx := rfl
@[simp] theorem State.tx_setLoader (s : State) (x : Loader) : (s.setLoader x).tx = s.tx := rfl
@[simp] theorem State.peers_setLoader (s : State) (x : Loader) : (s.setLoader x).peers = s.peers := rfl
@[simp] theorem State.race_setLoader (s : State) (x : Loader) : (s.setLoader x).race = s.race := rfl
@[simp] theorem State.image_setLoader (s : State) (x : Loader) : (s.setLoader x).image = s.image := rfl
@[simp] theorem State.lamp_setLoader (s : State) (x : Loader) : (s.setLoader x).lamp = s.lamp := rfl
@[simp] theorem State.cmd_setLoader (s : State) (x : Loader) : (s.setLoader x).cmd = s.cmd := rfl
@[simp] theorem State.events_setLoader (s : State) (x : Loader) : (s.setLoader x).events = s.events := rfl
@[simp] theorem State.free_setLoader (s : State) (x : Loader) : (s.setLoader x).free = s.free := rfl
@[simp] theorem State.pending_setLoader (s : State) (x : Loader) : (s.setLoader x).pending = s.pending := rfl
@[simp] theorem State.own_setLoader (s : State) (x : Loader) : (s.setLoader x).own = s.own := rfl
@[simp] theorem State.entry_setLoader (s : State) (x : Loader) (p : Station) : (s.setLoader x).entry p = s.entry p := rfl
@[simp] theorem State.start_setLoader (s : State) (x : Loader) (d : Instant) : (s.setLoader x).start d = s.start d := rfl

/-! ## State.setFrame -/

@[simp] theorem State.tick_setFrame (s : State) (x : FrameCapture) : (s.setFrame x).tick = s.tick := rfl
@[simp] theorem State.straps_setFrame (s : State) (x : FrameCapture) : (s.setFrame x).straps = s.straps := rfl
@[simp] theorem State.loader_setFrame (s : State) (x : FrameCapture) : (s.setFrame x).loader = s.loader := rfl
@[simp] theorem State.frame_setFrame (s : State) (x : FrameCapture) : (s.setFrame x).frame = x := rfl
@[simp] theorem State.rx_setFrame (s : State) (x : FrameCapture) : (s.setFrame x).rx = s.rx := rfl
@[simp] theorem State.tx_setFrame (s : State) (x : FrameCapture) : (s.setFrame x).tx = s.tx := rfl
@[simp] theorem State.peers_setFrame (s : State) (x : FrameCapture) : (s.setFrame x).peers = s.peers := rfl
@[simp] theorem State.race_setFrame (s : State) (x : FrameCapture) : (s.setFrame x).race = s.race := rfl
@[simp] theorem State.image_setFrame (s : State) (x : FrameCapture) : (s.setFrame x).image = s.image := rfl
@[simp] theorem State.lamp_setFrame (s : State) (x : FrameCapture) : (s.setFrame x).lamp = s.lamp := rfl
@[simp] theorem State.cmd_setFrame (s : State) (x : FrameCapture) : (s.setFrame x).cmd = s.cmd := rfl
@[simp] theorem State.events_setFrame (s : State) (x : FrameCapture) : (s.setFrame x).events = s.events := rfl
@[simp] theorem State.free_setFrame (s : State) (x : FrameCapture) : (s.setFrame x).free = s.free := rfl
@[simp] theorem State.pending_setFrame (s : State) (x : FrameCapture) : (s.setFrame x).pending = s.pending := rfl
@[simp] theorem State.own_setFrame (s : State) (x : FrameCapture) : (s.setFrame x).own = s.own := rfl
@[simp] theorem State.settings_setFrame (s : State) (x : FrameCapture) : (s.setFrame x).settings = s.settings := rfl
@[simp] theorem State.entry_setFrame (s : State) (x : FrameCapture) (p : Station) : (s.setFrame x).entry p = s.entry p := rfl
@[simp] theorem State.start_setFrame (s : State) (x : FrameCapture) (d : Instant) : (s.setFrame x).start d = s.start d := rfl

/-! ## State.setRx -/

@[simp] theorem State.tick_setRx (s : State) (x : BusReceiver) : (s.setRx x).tick = s.tick := rfl
@[simp] theorem State.straps_setRx (s : State) (x : BusReceiver) : (s.setRx x).straps = s.straps := rfl
@[simp] theorem State.loader_setRx (s : State) (x : BusReceiver) : (s.setRx x).loader = s.loader := rfl
@[simp] theorem State.frame_setRx (s : State) (x : BusReceiver) : (s.setRx x).frame = s.frame := rfl
@[simp] theorem State.rx_setRx (s : State) (x : BusReceiver) : (s.setRx x).rx = x := rfl
@[simp] theorem State.tx_setRx (s : State) (x : BusReceiver) : (s.setRx x).tx = s.tx := rfl
@[simp] theorem State.peers_setRx (s : State) (x : BusReceiver) : (s.setRx x).peers = s.peers := rfl
@[simp] theorem State.race_setRx (s : State) (x : BusReceiver) : (s.setRx x).race = s.race := rfl
@[simp] theorem State.image_setRx (s : State) (x : BusReceiver) : (s.setRx x).image = s.image := rfl
@[simp] theorem State.lamp_setRx (s : State) (x : BusReceiver) : (s.setRx x).lamp = s.lamp := rfl
@[simp] theorem State.cmd_setRx (s : State) (x : BusReceiver) : (s.setRx x).cmd = s.cmd := rfl
@[simp] theorem State.events_setRx (s : State) (x : BusReceiver) : (s.setRx x).events = s.events := rfl
@[simp] theorem State.free_setRx (s : State) (x : BusReceiver) : (s.setRx x).free = s.free := rfl
@[simp] theorem State.pending_setRx (s : State) (x : BusReceiver) : (s.setRx x).pending = s.pending := rfl
@[simp] theorem State.own_setRx (s : State) (x : BusReceiver) : (s.setRx x).own = s.own := rfl
@[simp] theorem State.settings_setRx (s : State) (x : BusReceiver) : (s.setRx x).settings = s.settings := rfl
@[simp] theorem State.entry_setRx (s : State) (x : BusReceiver) (p : Station) : (s.setRx x).entry p = s.entry p := rfl
@[simp] theorem State.start_setRx (s : State) (x : BusReceiver) (d : Instant) : (s.setRx x).start d = s.start d := rfl

/-! ## State.setTx -/

@[simp] theorem State.tick_setTx (s : State) (x : Transmitter) : (s.setTx x).tick = s.tick := rfl
@[simp] theorem State.straps_setTx (s : State) (x : Transmitter) : (s.setTx x).straps = s.straps := rfl
@[simp] theorem State.loader_setTx (s : State) (x : Transmitter) : (s.setTx x).loader = s.loader := rfl
@[simp] theorem State.frame_setTx (s : State) (x : Transmitter) : (s.setTx x).frame = s.frame := rfl
@[simp] theorem State.rx_setTx (s : State) (x : Transmitter) : (s.setTx x).rx = s.rx := rfl
@[simp] theorem State.tx_setTx (s : State) (x : Transmitter) : (s.setTx x).tx = x := rfl
@[simp] theorem State.peers_setTx (s : State) (x : Transmitter) : (s.setTx x).peers = s.peers := rfl
@[simp] theorem State.race_setTx (s : State) (x : Transmitter) : (s.setTx x).race = s.race := rfl
@[simp] theorem State.image_setTx (s : State) (x : Transmitter) : (s.setTx x).image = s.image := rfl
@[simp] theorem State.lamp_setTx (s : State) (x : Transmitter) : (s.setTx x).lamp = s.lamp := rfl
@[simp] theorem State.cmd_setTx (s : State) (x : Transmitter) : (s.setTx x).cmd = s.cmd := rfl
@[simp] theorem State.events_setTx (s : State) (x : Transmitter) : (s.setTx x).events = s.events := rfl
@[simp] theorem State.free_setTx (s : State) (x : Transmitter) : (s.setTx x).free = s.free := rfl
@[simp] theorem State.pending_setTx (s : State) (x : Transmitter) : (s.setTx x).pending = s.pending := rfl
@[simp] theorem State.own_setTx (s : State) (x : Transmitter) : (s.setTx x).own = s.own := rfl
@[simp] theorem State.settings_setTx (s : State) (x : Transmitter) : (s.setTx x).settings = s.settings := rfl
@[simp] theorem State.entry_setTx (s : State) (x : Transmitter) (p : Station) : (s.setTx x).entry p = s.entry p := rfl
@[simp] theorem State.start_setTx (s : State) (x : Transmitter) (d : Instant) : (s.setTx x).start d = s.start d := rfl

/-! ## State.setPeers -/

@[simp] theorem State.tick_setPeers (s : State) (x : PeerTable) : (s.setPeers x).tick = s.tick := rfl
@[simp] theorem State.straps_setPeers (s : State) (x : PeerTable) : (s.setPeers x).straps = s.straps := rfl
@[simp] theorem State.loader_setPeers (s : State) (x : PeerTable) : (s.setPeers x).loader = s.loader := rfl
@[simp] theorem State.frame_setPeers (s : State) (x : PeerTable) : (s.setPeers x).frame = s.frame := rfl
@[simp] theorem State.rx_setPeers (s : State) (x : PeerTable) : (s.setPeers x).rx = s.rx := rfl
@[simp] theorem State.tx_setPeers (s : State) (x : PeerTable) : (s.setPeers x).tx = s.tx := rfl
@[simp] theorem State.peers_setPeers (s : State) (x : PeerTable) : (s.setPeers x).peers = x := rfl
@[simp] theorem State.race_setPeers (s : State) (x : PeerTable) : (s.setPeers x).race = s.race := rfl
@[simp] theorem State.image_setPeers (s : State) (x : PeerTable) : (s.setPeers x).image = s.image := rfl
@[simp] theorem State.lamp_setPeers (s : State) (x : PeerTable) : (s.setPeers x).lamp = s.lamp := rfl
@[simp] theorem State.cmd_setPeers (s : State) (x : PeerTable) : (s.setPeers x).cmd = s.cmd := rfl
@[simp] theorem State.events_setPeers (s : State) (x : PeerTable) : (s.setPeers x).events = s.events := rfl
@[simp] theorem State.free_setPeers (s : State) (x : PeerTable) : (s.setPeers x).free = s.free := rfl
@[simp] theorem State.pending_setPeers (s : State) (x : PeerTable) : (s.setPeers x).pending = s.pending := rfl
@[simp] theorem State.own_setPeers (s : State) (x : PeerTable) : (s.setPeers x).own = s.own := rfl
@[simp] theorem State.settings_setPeers (s : State) (x : PeerTable) : (s.setPeers x).settings = s.settings := rfl
@[simp] theorem State.entry_setPeers (s : State) (x : PeerTable) (p : Station) : (s.setPeers x).entry p = x.entries.get p := rfl
@[simp] theorem State.start_setPeers (s : State) (x : PeerTable) (d : Instant) : (s.setPeers x).start d = s.start d := rfl

/-! ## State.setRace -/

@[simp] theorem State.tick_setRace (s : State) (x : Sequencer) : (s.setRace x).tick = s.tick := rfl
@[simp] theorem State.straps_setRace (s : State) (x : Sequencer) : (s.setRace x).straps = s.straps := rfl
@[simp] theorem State.loader_setRace (s : State) (x : Sequencer) : (s.setRace x).loader = s.loader := rfl
@[simp] theorem State.frame_setRace (s : State) (x : Sequencer) : (s.setRace x).frame = s.frame := rfl
@[simp] theorem State.rx_setRace (s : State) (x : Sequencer) : (s.setRace x).rx = s.rx := rfl
@[simp] theorem State.tx_setRace (s : State) (x : Sequencer) : (s.setRace x).tx = s.tx := rfl
@[simp] theorem State.peers_setRace (s : State) (x : Sequencer) : (s.setRace x).peers = s.peers := rfl
@[simp] theorem State.race_setRace (s : State) (x : Sequencer) : (s.setRace x).race = x := rfl
@[simp] theorem State.image_setRace (s : State) (x : Sequencer) : (s.setRace x).image = s.image := rfl
@[simp] theorem State.lamp_setRace (s : State) (x : Sequencer) : (s.setRace x).lamp = s.lamp := rfl
@[simp] theorem State.cmd_setRace (s : State) (x : Sequencer) : (s.setRace x).cmd = s.cmd := rfl
@[simp] theorem State.events_setRace (s : State) (x : Sequencer) : (s.setRace x).events = s.events := rfl
@[simp] theorem State.free_setRace (s : State) (x : Sequencer) : (s.setRace x).free = s.free := rfl
@[simp] theorem State.pending_setRace (s : State) (x : Sequencer) : (s.setRace x).pending = s.pending := rfl
@[simp] theorem State.own_setRace (s : State) (x : Sequencer) : (s.setRace x).own = s.own := rfl
@[simp] theorem State.settings_setRace (s : State) (x : Sequencer) : (s.setRace x).settings = s.settings := rfl
@[simp] theorem State.entry_setRace (s : State) (x : Sequencer) (p : Station) : (s.setRace x).entry p = s.entry p := rfl
@[simp] theorem State.start_setRace (s : State) (x : Sequencer) (d : Instant) : (s.setRace x).start d = s.start d := rfl

/-! ## State.setImage -/

@[simp] theorem State.tick_setImage (s : State) (x : ImageBuilder) : (s.setImage x).tick = s.tick := rfl
@[simp] theorem State.straps_setImage (s : State) (x : ImageBuilder) : (s.setImage x).straps = s.straps := rfl
@[simp] theorem State.loader_setImage (s : State) (x : ImageBuilder) : (s.setImage x).loader = s.loader := rfl
@[simp] theorem State.frame_setImage (s : State) (x : ImageBuilder) : (s.setImage x).frame = s.frame := rfl
@[simp] theorem State.rx_setImage (s : State) (x : ImageBuilder) : (s.setImage x).rx = s.rx := rfl
@[simp] theorem State.tx_setImage (s : State) (x : ImageBuilder) : (s.setImage x).tx = s.tx := rfl
@[simp] theorem State.peers_setImage (s : State) (x : ImageBuilder) : (s.setImage x).peers = s.peers := rfl
@[simp] theorem State.race_setImage (s : State) (x : ImageBuilder) : (s.setImage x).race = s.race := rfl
@[simp] theorem State.image_setImage (s : State) (x : ImageBuilder) : (s.setImage x).image = x := rfl
@[simp] theorem State.lamp_setImage (s : State) (x : ImageBuilder) : (s.setImage x).lamp = s.lamp := rfl
@[simp] theorem State.cmd_setImage (s : State) (x : ImageBuilder) : (s.setImage x).cmd = s.cmd := rfl
@[simp] theorem State.events_setImage (s : State) (x : ImageBuilder) : (s.setImage x).events = s.events := rfl
@[simp] theorem State.free_setImage (s : State) (x : ImageBuilder) : (s.setImage x).free = s.free := rfl
@[simp] theorem State.pending_setImage (s : State) (x : ImageBuilder) : (s.setImage x).pending = s.pending := rfl
@[simp] theorem State.own_setImage (s : State) (x : ImageBuilder) : (s.setImage x).own = s.own := rfl
@[simp] theorem State.settings_setImage (s : State) (x : ImageBuilder) : (s.setImage x).settings = s.settings := rfl
@[simp] theorem State.entry_setImage (s : State) (x : ImageBuilder) (p : Station) : (s.setImage x).entry p = s.entry p := rfl
@[simp] theorem State.start_setImage (s : State) (x : ImageBuilder) (d : Instant) : (s.setImage x).start d = s.start d := rfl

/-! ## State.setLamp -/

@[simp] theorem State.tick_setLamp (s : State) (x : LampUnit) : (s.setLamp x).tick = s.tick := rfl
@[simp] theorem State.straps_setLamp (s : State) (x : LampUnit) : (s.setLamp x).straps = s.straps := rfl
@[simp] theorem State.loader_setLamp (s : State) (x : LampUnit) : (s.setLamp x).loader = s.loader := rfl
@[simp] theorem State.frame_setLamp (s : State) (x : LampUnit) : (s.setLamp x).frame = s.frame := rfl
@[simp] theorem State.rx_setLamp (s : State) (x : LampUnit) : (s.setLamp x).rx = s.rx := rfl
@[simp] theorem State.tx_setLamp (s : State) (x : LampUnit) : (s.setLamp x).tx = s.tx := rfl
@[simp] theorem State.peers_setLamp (s : State) (x : LampUnit) : (s.setLamp x).peers = s.peers := rfl
@[simp] theorem State.race_setLamp (s : State) (x : LampUnit) : (s.setLamp x).race = s.race := rfl
@[simp] theorem State.image_setLamp (s : State) (x : LampUnit) : (s.setLamp x).image = s.image := rfl
@[simp] theorem State.lamp_setLamp (s : State) (x : LampUnit) : (s.setLamp x).lamp = x := rfl
@[simp] theorem State.cmd_setLamp (s : State) (x : LampUnit) : (s.setLamp x).cmd = s.cmd := rfl
@[simp] theorem State.events_setLamp (s : State) (x : LampUnit) : (s.setLamp x).events = s.events := rfl
@[simp] theorem State.free_setLamp (s : State) (x : LampUnit) : (s.setLamp x).free = s.free := rfl
@[simp] theorem State.pending_setLamp (s : State) (x : LampUnit) : (s.setLamp x).pending = s.pending := rfl
@[simp] theorem State.own_setLamp (s : State) (x : LampUnit) : (s.setLamp x).own = s.own := rfl
@[simp] theorem State.settings_setLamp (s : State) (x : LampUnit) : (s.setLamp x).settings = s.settings := rfl
@[simp] theorem State.entry_setLamp (s : State) (x : LampUnit) (p : Station) : (s.setLamp x).entry p = s.entry p := rfl
@[simp] theorem State.start_setLamp (s : State) (x : LampUnit) (d : Instant) : (s.setLamp x).start d = s.start d := rfl

/-! ## State.setCmd -/

@[simp] theorem State.tick_setCmd (s : State) (x : CommandUnit) : (s.setCmd x).tick = s.tick := rfl
@[simp] theorem State.straps_setCmd (s : State) (x : CommandUnit) : (s.setCmd x).straps = s.straps := rfl
@[simp] theorem State.loader_setCmd (s : State) (x : CommandUnit) : (s.setCmd x).loader = s.loader := rfl
@[simp] theorem State.frame_setCmd (s : State) (x : CommandUnit) : (s.setCmd x).frame = s.frame := rfl
@[simp] theorem State.rx_setCmd (s : State) (x : CommandUnit) : (s.setCmd x).rx = s.rx := rfl
@[simp] theorem State.tx_setCmd (s : State) (x : CommandUnit) : (s.setCmd x).tx = s.tx := rfl
@[simp] theorem State.peers_setCmd (s : State) (x : CommandUnit) : (s.setCmd x).peers = s.peers := rfl
@[simp] theorem State.race_setCmd (s : State) (x : CommandUnit) : (s.setCmd x).race = s.race := rfl
@[simp] theorem State.image_setCmd (s : State) (x : CommandUnit) : (s.setCmd x).image = s.image := rfl
@[simp] theorem State.lamp_setCmd (s : State) (x : CommandUnit) : (s.setCmd x).lamp = s.lamp := rfl
@[simp] theorem State.cmd_setCmd (s : State) (x : CommandUnit) : (s.setCmd x).cmd = x := rfl
@[simp] theorem State.events_setCmd (s : State) (x : CommandUnit) : (s.setCmd x).events = s.events := rfl
@[simp] theorem State.free_setCmd (s : State) (x : CommandUnit) : (s.setCmd x).free = s.free := rfl
@[simp] theorem State.pending_setCmd (s : State) (x : CommandUnit) : (s.setCmd x).pending = s.pending := rfl
@[simp] theorem State.own_setCmd (s : State) (x : CommandUnit) : (s.setCmd x).own = s.own := rfl
@[simp] theorem State.settings_setCmd (s : State) (x : CommandUnit) : (s.setCmd x).settings = s.settings := rfl
@[simp] theorem State.entry_setCmd (s : State) (x : CommandUnit) (p : Station) : (s.setCmd x).entry p = s.entry p := rfl
@[simp] theorem State.start_setCmd (s : State) (x : CommandUnit) (d : Instant) : (s.setCmd x).start d = s.start d := rfl

/-! ## State.setEvents -/

@[simp] theorem State.tick_setEvents (s : State) (x : EventQueue) : (s.setEvents x).tick = s.tick := rfl
@[simp] theorem State.straps_setEvents (s : State) (x : EventQueue) : (s.setEvents x).straps = s.straps := rfl
@[simp] theorem State.loader_setEvents (s : State) (x : EventQueue) : (s.setEvents x).loader = s.loader := rfl
@[simp] theorem State.frame_setEvents (s : State) (x : EventQueue) : (s.setEvents x).frame = s.frame := rfl
@[simp] theorem State.rx_setEvents (s : State) (x : EventQueue) : (s.setEvents x).rx = s.rx := rfl
@[simp] theorem State.tx_setEvents (s : State) (x : EventQueue) : (s.setEvents x).tx = s.tx := rfl
@[simp] theorem State.peers_setEvents (s : State) (x : EventQueue) : (s.setEvents x).peers = s.peers := rfl
@[simp] theorem State.race_setEvents (s : State) (x : EventQueue) : (s.setEvents x).race = s.race := rfl
@[simp] theorem State.image_setEvents (s : State) (x : EventQueue) : (s.setEvents x).image = s.image := rfl
@[simp] theorem State.lamp_setEvents (s : State) (x : EventQueue) : (s.setEvents x).lamp = s.lamp := rfl
@[simp] theorem State.cmd_setEvents (s : State) (x : EventQueue) : (s.setEvents x).cmd = s.cmd := rfl
@[simp] theorem State.events_setEvents (s : State) (x : EventQueue) : (s.setEvents x).events = x := rfl
@[simp] theorem State.free_setEvents (s : State) (x : EventQueue) : (s.setEvents x).free = s.free := rfl
@[simp] theorem State.pending_setEvents (s : State) (x : EventQueue) : (s.setEvents x).pending = s.pending := rfl
@[simp] theorem State.own_setEvents (s : State) (x : EventQueue) : (s.setEvents x).own = s.own := rfl
@[simp] theorem State.settings_setEvents (s : State) (x : EventQueue) : (s.setEvents x).settings = s.settings := rfl
@[simp] theorem State.entry_setEvents (s : State) (x : EventQueue) (p : Station) : (s.setEvents x).entry p = s.entry p := rfl
@[simp] theorem State.start_setEvents (s : State) (x : EventQueue) (d : Instant) : (s.setEvents x).start d = s.start d := rfl

/-! ## State.setFree -/

@[simp] theorem State.tick_setFree (s : State) (x : Nat) : (s.setFree x).tick = s.tick := rfl
@[simp] theorem State.straps_setFree (s : State) (x : Nat) : (s.setFree x).straps = s.straps := rfl
@[simp] theorem State.loader_setFree (s : State) (x : Nat) : (s.setFree x).loader = s.loader := rfl
@[simp] theorem State.frame_setFree (s : State) (x : Nat) : (s.setFree x).frame = s.frame := rfl
@[simp] theorem State.rx_setFree (s : State) (x : Nat) : (s.setFree x).rx = s.rx := rfl
@[simp] theorem State.tx_setFree (s : State) (x : Nat) : (s.setFree x).tx = s.tx := rfl
@[simp] theorem State.peers_setFree (s : State) (x : Nat) : (s.setFree x).peers = s.peers := rfl
@[simp] theorem State.race_setFree (s : State) (x : Nat) : (s.setFree x).race = s.race := rfl
@[simp] theorem State.image_setFree (s : State) (x : Nat) : (s.setFree x).image = s.image := rfl
@[simp] theorem State.lamp_setFree (s : State) (x : Nat) : (s.setFree x).lamp = s.lamp := rfl
@[simp] theorem State.cmd_setFree (s : State) (x : Nat) : (s.setFree x).cmd = s.cmd := rfl
@[simp] theorem State.events_setFree (s : State) (x : Nat) : (s.setFree x).events = s.events := rfl
@[simp] theorem State.free_setFree (s : State) (x : Nat) : (s.setFree x).free = x := rfl
@[simp] theorem State.pending_setFree (s : State) (x : Nat) : (s.setFree x).pending = s.pending := rfl
@[simp] theorem State.own_setFree (s : State) (x : Nat) : (s.setFree x).own = s.own := rfl
@[simp] theorem State.settings_setFree (s : State) (x : Nat) : (s.setFree x).settings = s.settings := rfl
@[simp] theorem State.entry_setFree (s : State) (x : Nat) (p : Station) : (s.setFree x).entry p = s.entry p := rfl
@[simp] theorem State.start_setFree (s : State) (x : Nat) (d : Instant) : (s.setFree x).start d = s.start d := rfl

/-! ## State.setPending -/

@[simp] theorem State.tick_setPending (s : State) (x : List Instr) : (s.setPending x).tick = s.tick := rfl
@[simp] theorem State.straps_setPending (s : State) (x : List Instr) : (s.setPending x).straps = s.straps := rfl
@[simp] theorem State.loader_setPending (s : State) (x : List Instr) : (s.setPending x).loader = s.loader := rfl
@[simp] theorem State.frame_setPending (s : State) (x : List Instr) : (s.setPending x).frame = s.frame := rfl
@[simp] theorem State.rx_setPending (s : State) (x : List Instr) : (s.setPending x).rx = s.rx := rfl
@[simp] theorem State.tx_setPending (s : State) (x : List Instr) : (s.setPending x).tx = s.tx := rfl
@[simp] theorem State.peers_setPending (s : State) (x : List Instr) : (s.setPending x).peers = s.peers := rfl
@[simp] theorem State.race_setPending (s : State) (x : List Instr) : (s.setPending x).race = s.race := rfl
@[simp] theorem State.image_setPending (s : State) (x : List Instr) : (s.setPending x).image = s.image := rfl
@[simp] theorem State.lamp_setPending (s : State) (x : List Instr) : (s.setPending x).lamp = s.lamp := rfl
@[simp] theorem State.cmd_setPending (s : State) (x : List Instr) : (s.setPending x).cmd = s.cmd := rfl
@[simp] theorem State.events_setPending (s : State) (x : List Instr) : (s.setPending x).events = s.events := rfl
@[simp] theorem State.free_setPending (s : State) (x : List Instr) : (s.setPending x).free = s.free := rfl
@[simp] theorem State.pending_setPending (s : State) (x : List Instr) : (s.setPending x).pending = x := rfl
@[simp] theorem State.own_setPending (s : State) (x : List Instr) : (s.setPending x).own = s.own := rfl
@[simp] theorem State.settings_setPending (s : State) (x : List Instr) : (s.setPending x).settings = s.settings := rfl
@[simp] theorem State.entry_setPending (s : State) (x : List Instr) (p : Station) : (s.setPending x).entry p = s.entry p := rfl
@[simp] theorem State.start_setPending (s : State) (x : List Instr) (d : Instant) : (s.setPending x).start d = s.start d := rfl

end Sys2Proof.Machine
end

