-- ==== Sys2Proof/Laws/Blocks.lean ====
section
/-! SUPPORT. For each operation on the whole state: the blocks it leaves as they were. -/

namespace Sys2Proof.Machine

@[simp] theorem State.post_keeps (s : State) (kind : EventKind) (station : Station) (detail : Word) (stamp : Instant) :
    (s.post kind station detail stamp).tick = s.tick ∧ (s.post kind station detail stamp).straps = s.straps ∧
    (s.post kind station detail stamp).loader = s.loader ∧ (s.post kind station detail stamp).frame = s.frame ∧
    (s.post kind station detail stamp).rx = s.rx ∧ (s.post kind station detail stamp).tx = s.tx ∧
    (s.post kind station detail stamp).peers = s.peers ∧ (s.post kind station detail stamp).race = s.race ∧
    (s.post kind station detail stamp).image = s.image ∧ (s.post kind station detail stamp).lamp = s.lamp ∧
    (s.post kind station detail stamp).cmd = s.cmd ∧ (s.post kind station detail stamp).free = s.free ∧
    (s.post kind station detail stamp).pending = s.pending ∧ (s.post kind station detail stamp).own = s.own ∧
    (s.post kind station detail stamp).settings = s.settings ∧
    ∀ x, (s.post kind station detail stamp).entry x = s.entry x := by
  unfold State.post
  repeat' first | split | dsimp only
  all_goals simp

@[simp] theorem State.setEntry_keeps (s : State) (p : Station) (e : Entry) :
    (s.setEntry p e).tick = s.tick ∧ (s.setEntry p e).straps = s.straps ∧ (s.setEntry p e).loader = s.loader ∧
    (s.setEntry p e).frame = s.frame ∧ (s.setEntry p e).rx = s.rx ∧ (s.setEntry p e).tx = s.tx ∧
    (s.setEntry p e).race = s.race ∧ (s.setEntry p e).image = s.image ∧ (s.setEntry p e).lamp = s.lamp ∧
    (s.setEntry p e).cmd = s.cmd ∧ (s.setEntry p e).events = s.events ∧ (s.setEntry p e).free = s.free ∧
    (s.setEntry p e).pending = s.pending ∧ (s.setEntry p e).own = s.own ∧
    (s.setEntry p e).settings = s.settings := by
  unfold State.setEntry
  repeat' first | split | dsimp only
  all_goals simp

@[simp] theorem State.mapEntries_keeps (s : State) (f : Station → Entry → Entry) :
    (s.mapEntries f).tick = s.tick ∧ (s.mapEntries f).straps = s.straps ∧ (s.mapEntries f).loader = s.loader ∧
    (s.mapEntries f).frame = s.frame ∧ (s.mapEntries f).rx = s.rx ∧ (s.mapEntries f).tx = s.tx ∧
    (s.mapEntries f).race = s.race ∧ (s.mapEntries f).image = s.image ∧ (s.mapEntries f).lamp = s.lamp ∧
    (s.mapEntries f).cmd = s.cmd ∧ (s.mapEntries f).events = s.events ∧ (s.mapEntries f).free = s.free ∧
    (s.mapEntries f).pending = s.pending ∧ (s.mapEntries f).own = s.own ∧
    (s.mapEntries f).settings = s.settings := by
  unfold State.mapEntries
  repeat' first | split | dsimp only
  all_goals simp

@[simp] theorem State.setOwn_keeps (s : State) (o : OwnState) :
    (s.setOwn o).tick = s.tick ∧ (s.setOwn o).straps = s.straps ∧ (s.setOwn o).loader = s.loader ∧
    (s.setOwn o).frame = s.frame ∧ (s.setOwn o).rx = s.rx ∧ (s.setOwn o).peers = s.peers ∧
    (s.setOwn o).image = s.image ∧ (s.setOwn o).lamp = s.lamp ∧ (s.setOwn o).cmd = s.cmd ∧
    (s.setOwn o).events = s.events ∧ (s.setOwn o).free = s.free ∧ (s.setOwn o).pending = s.pending ∧
    (s.setOwn o).own = s.own ∧ (s.setOwn o).settings = s.settings ∧ ∀ p, (s.setOwn o).entry p = s.entry p := by
  unfold State.setOwn
  repeat' first | split | dsimp only
  all_goals simp

@[simp] theorem State.dropFrame_keeps (s : State) (k : Nat) :
    (s.dropFrame k).tick = s.tick ∧ (s.dropFrame k).straps = s.straps ∧ (s.dropFrame k).loader = s.loader ∧
    (s.dropFrame k).frame = s.frame ∧ (s.dropFrame k).rx = s.rx ∧ (s.dropFrame k).peers = s.peers ∧
    (s.dropFrame k).race = s.race ∧ (s.dropFrame k).image = s.image ∧ (s.dropFrame k).lamp = s.lamp ∧
    (s.dropFrame k).cmd = s.cmd ∧ (s.dropFrame k).free = s.free ∧ (s.dropFrame k).pending = s.pending ∧
    (s.dropFrame k).own = s.own ∧ (s.dropFrame k).settings = s.settings ∧
    ∀ p, (s.dropFrame k).entry p = s.entry p := by
  unfold State.dropFrame
  repeat' first | split | dsimp only
  all_goals simp

@[simp] theorem State.overflowControl_keeps (s : State) (c : ControlFrame) (l : List ControlFrame) :
    (s.overflowControl c l).tick = s.tick ∧ (s.overflowControl c l).straps = s.straps ∧
    (s.overflowControl c l).loader = s.loader ∧ (s.overflowControl c l).frame = s.frame ∧
    (s.overflowControl c l).rx = s.rx ∧ (s.overflowControl c l).peers = s.peers ∧
    (s.overflowControl c l).image = s.image ∧ (s.overflowControl c l).lamp = s.lamp ∧
    (s.overflowControl c l).cmd = s.cmd ∧ (s.overflowControl c l).free = s.free ∧
    (s.overflowControl c l).pending = s.pending ∧ (s.overflowControl c l).own = s.own ∧
    (s.overflowControl c l).settings = s.settings ∧ ∀ p, (s.overflowControl c l).entry p = s.entry p := by
  unfold State.overflowControl
  repeat' first | split | dsimp only
  all_goals simp

@[simp] theorem State.makeRoom_keeps (s : State) :
    (s.makeRoom).tick = s.tick ∧ (s.makeRoom).straps = s.straps ∧ (s.makeRoom).loader = s.loader ∧
    (s.makeRoom).frame = s.frame ∧ (s.makeRoom).rx = s.rx ∧ (s.makeRoom).peers = s.peers ∧
    (s.makeRoom).image = s.image ∧ (s.makeRoom).lamp = s.lamp ∧ (s.makeRoom).cmd = s.cmd ∧
    (s.makeRoom).free = s.free ∧ (s.makeRoom).pending = s.pending ∧ (s.makeRoom).own = s.own ∧
    (s.makeRoom).settings = s.settings ∧ ∀ p, (s.makeRoom).entry p = s.entry p := by
  unfold State.makeRoom
  repeat' first | split | dsimp only
  all_goals simp

@[simp] theorem State.placeControl_keeps (s : State) (c : ControlFrame) :
    (s.placeControl c).tick = s.tick ∧ (s.placeControl c).straps = s.straps ∧
    (s.placeControl c).loader = s.loader ∧ (s.placeControl c).frame = s.frame ∧ (s.placeControl c).rx = s.rx ∧
    (s.placeControl c).peers = s.peers ∧ (s.placeControl c).image = s.image ∧
    (s.placeControl c).lamp = s.lamp ∧ (s.placeControl c).cmd = s.cmd ∧ (s.placeControl c).free = s.free ∧
    (s.placeControl c).pending = s.pending ∧ (s.placeControl c).own = s.own ∧
    (s.placeControl c).settings = s.settings ∧ ∀ p, (s.placeControl c).entry p = s.entry p := by
  unfold State.placeControl
  repeat' first | split | dsimp only
  all_goals simp

@[simp] theorem State.removeProposal_keeps (s : State) :
    (s.removeProposal).tick = s.tick ∧ (s.removeProposal).straps = s.straps ∧
    (s.removeProposal).loader = s.loader ∧ (s.removeProposal).frame = s.frame ∧ (s.removeProposal).rx = s.rx ∧
    (s.removeProposal).peers = s.peers ∧ (s.removeProposal).image = s.image ∧
    (s.removeProposal).lamp = s.lamp ∧ (s.removeProposal).cmd = s.cmd ∧ (s.removeProposal).events = s.events ∧
    (s.removeProposal).free = s.free ∧ (s.removeProposal).pending = s.pending ∧
    (s.removeProposal).own = s.own ∧ (s.removeProposal).settings = s.settings ∧
    ∀ p, (s.removeProposal).entry p = s.entry p := by
  unfold State.removeProposal
  repeat' first | split | dsimp only
  all_goals simp

@[simp] theorem State.loseCurrent_keeps (s : State) :
    (s.loseCurrent).tick = s.tick ∧ (s.loseCurrent).straps = s.straps ∧ (s.loseCurrent).loader = s.loader ∧
    (s.loseCurrent).frame = s.frame ∧ (s.loseCurrent).rx = s.rx ∧ (s.loseCurrent).peers = s.peers ∧
    (s.loseCurrent).race = s.race ∧ (s.loseCurrent).image = s.image ∧ (s.loseCurrent).lamp = s.lamp ∧
    (s.loseCurrent).cmd = s.cmd ∧ (s.loseCurrent).events = s.events ∧ (s.loseCurrent).free = s.free ∧
    (s.loseCurrent).pending = s.pending ∧ (s.loseCurrent).own = s.own ∧ (s.loseCurrent).settings = s.settings ∧
    ∀ p, (s.loseCurrent).entry p = s.entry p := by
  unfold State.loseCurrent
  repeat' first | split | dsimp only
  all_goals simp

@[simp] theorem State.depart_keeps (s : State) (c : Current) :
    (s.depart c).tick = s.tick ∧ (s.depart c).straps = s.straps ∧ (s.depart c).loader = s.loader ∧
    (s.depart c).frame = s.frame ∧ (s.depart c).rx = s.rx ∧ (s.depart c).peers = s.peers ∧
    (s.depart c).race = s.race ∧ (s.depart c).image = s.image ∧ (s.depart c).lamp = s.lamp ∧
    (s.depart c).cmd = s.cmd ∧ (s.depart c).events = s.events ∧ (s.depart c).free = s.free ∧
    (s.depart c).pending = s.pending ∧ (s.depart c).own = s.own ∧ (s.depart c).settings = s.settings ∧
    ∀ p, (s.depart c).entry p = s.entry p := by
  unfold State.depart
  repeat' first | split | dsimp only
  all_goals simp

@[simp] theorem State.withdrawStart_keeps (s : State) :
    (s.withdrawStart).tick = s.tick ∧ (s.withdrawStart).straps = s.straps ∧
    (s.withdrawStart).loader = s.loader ∧ (s.withdrawStart).frame = s.frame ∧ (s.withdrawStart).rx = s.rx ∧
    (s.withdrawStart).peers = s.peers ∧ (s.withdrawStart).image = s.image ∧ (s.withdrawStart).lamp = s.lamp ∧
    (s.withdrawStart).cmd = s.cmd ∧ (s.withdrawStart).free = s.free ∧ (s.withdrawStart).pending = s.pending ∧
    (s.withdrawStart).own = s.own ∧ (s.withdrawStart).settings = s.settings ∧
    ∀ p, (s.withdrawStart).entry p = s.entry p := by
  unfold State.withdrawStart
  repeat' first | split | dsimp only
  all_goals simp

@[simp] theorem State.arbitrate_keeps (s : State) :
    (s.arbitrate).tick = s.tick ∧ (s.arbitrate).straps = s.straps ∧ (s.arbitrate).loader = s.loader ∧
    (s.arbitrate).frame = s.frame ∧ (s.arbitrate).rx = s.rx ∧ (s.arbitrate).peers = s.peers ∧
    (s.arbitrate).image = s.image ∧ (s.arbitrate).lamp = s.lamp ∧ (s.arbitrate).cmd = s.cmd ∧
    (s.arbitrate).free = s.free ∧ (s.arbitrate).pending = s.pending ∧ (s.arbitrate).own = s.own ∧
    (s.arbitrate).settings = s.settings ∧ ∀ p, (s.arbitrate).entry p = s.entry p := by
  unfold State.arbitrate
  repeat' first | split | dsimp only
  all_goals simp

@[simp] theorem State.seatMask_keeps (s : State) (m : Byte) :
    (s.seatMask m).tick = s.tick ∧ (s.seatMask m).straps = s.straps ∧ (s.seatMask m).loader = s.loader ∧
    (s.seatMask m).frame = s.frame ∧ (s.seatMask m).rx = s.rx ∧ (s.seatMask m).tx = s.tx ∧
    (s.seatMask m).race = s.race ∧ (s.seatMask m).image = s.image ∧ (s.seatMask m).lamp = s.lamp ∧
    (s.seatMask m).cmd = s.cmd ∧ (s.seatMask m).events = s.events ∧ (s.seatMask m).free = s.free ∧
    (s.seatMask m).pending = s.pending ∧ (s.seatMask m).own = s.own ∧ (s.seatMask m).settings = s.settings := by
  unfold State.seatMask
  simp

@[simp] theorem State.postGone_keeps (s : State) (f : Station → Bool) (a : Instant) (b : State) :
    (s.postGone f a b).tick = s.tick ∧ (s.postGone f a b).straps = s.straps ∧
    (s.postGone f a b).loader = s.loader ∧ (s.postGone f a b).frame = s.frame ∧ (s.postGone f a b).rx = s.rx ∧
    (s.postGone f a b).tx = s.tx ∧ (s.postGone f a b).peers = s.peers ∧ (s.postGone f a b).race = s.race ∧
    (s.postGone f a b).image = s.image ∧ (s.postGone f a b).lamp = s.lamp ∧ (s.postGone f a b).cmd = s.cmd ∧
    (s.postGone f a b).free = s.free ∧ (s.postGone f a b).pending = s.pending ∧
    (s.postGone f a b).own = s.own ∧ (s.postGone f a b).settings = s.settings ∧
    ∀ p, (s.postGone f a b).entry p = s.entry p := by
  unfold State.postGone
  generalize stations = l
  induction l generalizing s with
  | nil => simp
  | cons p rest ih => simp only [List.foldl_cons]; split <;> (have := ih (s.post .peerGone p 7 a); have := ih s; simp_all)

@[simp] theorem State.unseatWhere_keeps (s : State) (f : Station → Bool) (a : Instant) :
    (s.unseatWhere f a).tick = s.tick ∧ (s.unseatWhere f a).straps = s.straps ∧
    (s.unseatWhere f a).loader = s.loader ∧ (s.unseatWhere f a).frame = s.frame ∧
    (s.unseatWhere f a).rx = s.rx ∧ (s.unseatWhere f a).tx = s.tx ∧ (s.unseatWhere f a).race = s.race ∧
    (s.unseatWhere f a).image = s.image ∧ (s.unseatWhere f a).lamp = s.lamp ∧ (s.unseatWhere f a).cmd = s.cmd ∧
    (s.unseatWhere f a).free = s.free ∧ (s.unseatWhere f a).pending = s.pending ∧
    (s.unseatWhere f a).own = s.own ∧ (s.unseatWhere f a).settings = s.settings := by
  unfold State.unseatWhere
  simp

@[simp] theorem State.receiveFields_keeps (s : State) (f : BusFrame) (a : Instant) :
    (s.receiveFields f a).tick = s.tick ∧ (s.receiveFields f a).straps = s.straps ∧
    (s.receiveFields f a).loader = s.loader ∧ (s.receiveFields f a).frame = s.frame ∧
    (s.receiveFields f a).rx = s.rx ∧ (s.receiveFields f a).tx = s.tx ∧ (s.receiveFields f a).race = s.race ∧
    (s.receiveFields f a).image = s.image ∧ (s.receiveFields f a).lamp = s.lamp ∧
    (s.receiveFields f a).cmd = s.cmd ∧ (s.receiveFields f a).events = s.events ∧
    (s.receiveFields f a).free = s.free ∧ (s.receiveFields f a).pending = s.pending ∧
    (s.receiveFields f a).own = s.own ∧ (s.receiveFields f a).settings = s.settings := by
  unfold State.receiveFields
  simp

@[simp] theorem State.joinSender_keeps (s : State) (f : BusFrame) (a : Instant) :
    (s.joinSender f a).tick = s.tick ∧ (s.joinSender f a).straps = s.straps ∧
    (s.joinSender f a).loader = s.loader ∧ (s.joinSender f a).frame = s.frame ∧ (s.joinSender f a).rx = s.rx ∧
    (s.joinSender f a).tx = s.tx ∧ (s.joinSender f a).race = s.race ∧ (s.joinSender f a).image = s.image ∧
    (s.joinSender f a).lamp = s.lamp ∧ (s.joinSender f a).cmd = s.cmd ∧ (s.joinSender f a).free = s.free ∧
    (s.joinSender f a).pending = s.pending ∧ (s.joinSender f a).own = s.own ∧
    (s.joinSender f a).settings = s.settings := by
  unfold State.joinSender
  repeat' first | split | dsimp only
  all_goals simp

@[simp] theorem State.restartPresence_keeps (s : State) (p : Station) (a : Instant) :
    (s.restartPresence p a).tick = s.tick ∧ (s.restartPresence p a).straps = s.straps ∧
    (s.restartPresence p a).loader = s.loader ∧ (s.restartPresence p a).frame = s.frame ∧
    (s.restartPresence p a).rx = s.rx ∧ (s.restartPresence p a).tx = s.tx ∧
    (s.restartPresence p a).race = s.race ∧ (s.restartPresence p a).image = s.image ∧
    (s.restartPresence p a).lamp = s.lamp ∧ (s.restartPresence p a).cmd = s.cmd ∧
    (s.restartPresence p a).events = s.events ∧ (s.restartPresence p a).free = s.free ∧
    (s.restartPresence p a).pending = s.pending ∧ (s.restartPresence p a).own = s.own ∧
    (s.restartPresence p a).settings = s.settings := by
  unfold State.restartPresence
  repeat' first | split | dsimp only
  all_goals simp

@[simp] theorem State.hearLink_keeps (s : State) (f : BusFrame) (a : Instant) :
    (s.hearLink f a).tick = s.tick ∧ (s.hearLink f a).straps = s.straps ∧ (s.hearLink f a).loader = s.loader ∧
    (s.hearLink f a).frame = s.frame ∧ (s.hearLink f a).rx = s.rx ∧ (s.hearLink f a).tx = s.tx ∧
    (s.hearLink f a).race = s.race ∧ (s.hearLink f a).image = s.image ∧ (s.hearLink f a).lamp = s.lamp ∧
    (s.hearLink f a).cmd = s.cmd ∧ (s.hearLink f a).free = s.free ∧ (s.hearLink f a).pending = s.pending ∧
    (s.hearLink f a).own = s.own ∧ (s.hearLink f a).settings = s.settings := by
  unfold State.hearLink
  repeat' first | split | dsimp only
  all_goals simp

@[simp] theorem State.retire_keeps (s : State) (p : Station) (d : Word) (a : Instant) :
    (s.retire p d a).tick = s.tick ∧ (s.retire p d a).straps = s.straps ∧ (s.retire p d a).loader = s.loader ∧
    (s.retire p d a).frame = s.frame ∧ (s.retire p d a).rx = s.rx ∧ (s.retire p d a).tx = s.tx ∧
    (s.retire p d a).race = s.race ∧ (s.retire p d a).image = s.image ∧ (s.retire p d a).lamp = s.lamp ∧
    (s.retire p d a).cmd = s.cmd ∧ (s.retire p d a).free = s.free ∧ (s.retire p d a).pending = s.pending ∧
    (s.retire p d a).own = s.own ∧ (s.retire p d a).settings = s.settings := by
  unfold State.retire
  repeat' first | split | dsimp only
  all_goals simp

@[simp] theorem State.hearCall_keeps (s : State) (p : Station) (b : Bool) (r : LobbyInfo) (a : Instant) :
    (s.hearCall p b r a).tick = s.tick ∧ (s.hearCall p b r a).straps = s.straps ∧
    (s.hearCall p b r a).loader = s.loader ∧ (s.hearCall p b r a).frame = s.frame ∧
    (s.hearCall p b r a).rx = s.rx ∧ (s.hearCall p b r a).tx = s.tx ∧ (s.hearCall p b r a).race = s.race ∧
    (s.hearCall p b r a).image = s.image ∧ (s.hearCall p b r a).lamp = s.lamp ∧
    (s.hearCall p b r a).cmd = s.cmd ∧ (s.hearCall p b r a).free = s.free ∧
    (s.hearCall p b r a).pending = s.pending ∧ (s.hearCall p b r a).own = s.own ∧
    (s.hearCall p b r a).settings = s.settings := by
  unfold State.hearCall
  repeat' first | split | dsimp only
  all_goals simp

@[simp] theorem State.toElsewhere_keeps (s : State) (p : Station) :
    (s.toElsewhere p).tick = s.tick ∧ (s.toElsewhere p).straps = s.straps ∧
    (s.toElsewhere p).loader = s.loader ∧ (s.toElsewhere p).frame = s.frame ∧ (s.toElsewhere p).rx = s.rx ∧
    (s.toElsewhere p).tx = s.tx ∧ (s.toElsewhere p).race = s.race ∧ (s.toElsewhere p).image = s.image ∧
    (s.toElsewhere p).lamp = s.lamp ∧ (s.toElsewhere p).cmd = s.cmd ∧ (s.toElsewhere p).events = s.events ∧
    (s.toElsewhere p).free = s.free ∧ (s.toElsewhere p).pending = s.pending ∧ (s.toElsewhere p).own = s.own ∧
    (s.toElsewhere p).settings = s.settings := by
  unfold State.toElsewhere
  repeat' first | split | dsimp only
  all_goals simp

@[simp] theorem State.hearCar_keeps (s : State) (p : Station) (c : CarReport) (a : Instant) :
    (s.hearCar p c a).tick = s.tick ∧ (s.hearCar p c a).straps = s.straps ∧
    (s.hearCar p c a).loader = s.loader ∧ (s.hearCar p c a).frame = s.frame ∧ (s.hearCar p c a).rx = s.rx ∧
    (s.hearCar p c a).tx = s.tx ∧ (s.hearCar p c a).race = s.race ∧ (s.hearCar p c a).image = s.image ∧
    (s.hearCar p c a).lamp = s.lamp ∧ (s.hearCar p c a).cmd = s.cmd ∧ (s.hearCar p c a).free = s.free ∧
    (s.hearCar p c a).pending = s.pending ∧ (s.hearCar p c a).own = s.own ∧
    (s.hearCar p c a).settings = s.settings := by
  unfold State.hearCar
  repeat' first | split | dsimp only
  all_goals simp

@[simp] theorem State.clearTable_keeps (s : State) :
    (s.clearTable).tick = s.tick ∧ (s.clearTable).straps = s.straps ∧ (s.clearTable).loader = s.loader ∧
    (s.clearTable).frame = s.frame ∧ (s.clearTable).rx = s.rx ∧ (s.clearTable).tx = s.tx ∧
    (s.clearTable).race = s.race ∧ (s.clearTable).image = s.image ∧ (s.clearTable).lamp = s.lamp ∧
    (s.clearTable).cmd = s.cmd ∧ (s.clearTable).events = s.events ∧ (s.clearTable).free = s.free ∧
    (s.clearTable).pending = s.pending ∧ (s.clearTable).own = s.own ∧ (s.clearTable).settings = s.settings := by
  unfold State.clearTable
  simp

@[simp] theorem State.beginRecord_keeps (s : State) (r : RaceRecord) :
    (s.beginRecord r).tick = s.tick ∧ (s.beginRecord r).straps = s.straps ∧
    (s.beginRecord r).loader = s.loader ∧ (s.beginRecord r).frame = s.frame ∧ (s.beginRecord r).rx = s.rx ∧
    (s.beginRecord r).tx = s.tx ∧ (s.beginRecord r).peers = s.peers ∧ (s.beginRecord r).image = s.image ∧
    (s.beginRecord r).cmd = s.cmd ∧ (s.beginRecord r).events = s.events ∧ (s.beginRecord r).free = s.free ∧
    (s.beginRecord r).pending = s.pending ∧ (s.beginRecord r).own = s.own ∧
    (s.beginRecord r).settings = s.settings ∧ ∀ p, (s.beginRecord r).entry p = s.entry p := by
  unfold State.beginRecord
  repeat' first | split | dsimp only
  all_goals simp

@[simp] theorem State.dropOwnCar_keeps (s : State) :
    (s.dropOwnCar).tick = s.tick ∧ (s.dropOwnCar).straps = s.straps ∧ (s.dropOwnCar).loader = s.loader ∧
    (s.dropOwnCar).frame = s.frame ∧ (s.dropOwnCar).rx = s.rx ∧ (s.dropOwnCar).tx = s.tx ∧
    (s.dropOwnCar).race = s.race ∧ (s.dropOwnCar).image = s.image ∧ (s.dropOwnCar).lamp = s.lamp ∧
    (s.dropOwnCar).cmd = s.cmd ∧ (s.dropOwnCar).events = s.events ∧ (s.dropOwnCar).free = s.free ∧
    (s.dropOwnCar).pending = s.pending ∧ (s.dropOwnCar).own = s.own ∧ (s.dropOwnCar).settings = s.settings := by
  unfold State.dropOwnCar
  repeat' first | split | dsimp only
  all_goals simp

@[simp] theorem State.leaveRace_keeps (s : State) (a : Instant) :
    (s.leaveRace a).tick = s.tick ∧ (s.leaveRace a).straps = s.straps ∧ (s.leaveRace a).loader = s.loader ∧
    (s.leaveRace a).frame = s.frame ∧ (s.leaveRace a).rx = s.rx ∧ (s.leaveRace a).image = s.image ∧
    (s.leaveRace a).cmd = s.cmd ∧ (s.leaveRace a).free = s.free ∧ (s.leaveRace a).pending = s.pending ∧
    (s.leaveRace a).own = s.own ∧ (s.leaveRace a).settings = s.settings := by
  unfold State.leaveRace
  repeat' first | split | dsimp only
  all_goals simp

@[simp] theorem State.adopt_keeps (s : State) (p : Station) (q : StartProposal) (a : Instant) :
    (s.adopt p q a).tick = s.tick ∧ (s.adopt p q a).straps = s.straps ∧ (s.adopt p q a).loader = s.loader ∧
    (s.adopt p q a).frame = s.frame ∧ (s.adopt p q a).rx = s.rx ∧ (s.adopt p q a).image = s.image ∧
    (s.adopt p q a).cmd = s.cmd ∧ (s.adopt p q a).free = s.free ∧ (s.adopt p q a).pending = s.pending ∧
    (s.adopt p q a).own = s.own ∧ (s.adopt p q a).settings = s.settings := by
  unfold State.adopt
  repeat' first | split | dsimp only
  all_goals simp

@[simp] theorem State.markElsewhere_keeps (s : State) (m : Byte) (a : Instant) :
    (s.markElsewhere m a).tick = s.tick ∧ (s.markElsewhere m a).straps = s.straps ∧
    (s.markElsewhere m a).loader = s.loader ∧ (s.markElsewhere m a).frame = s.frame ∧
    (s.markElsewhere m a).rx = s.rx ∧ (s.markElsewhere m a).tx = s.tx ∧ (s.markElsewhere m a).race = s.race ∧
    (s.markElsewhere m a).image = s.image ∧ (s.markElsewhere m a).lamp = s.lamp ∧
    (s.markElsewhere m a).cmd = s.cmd ∧ (s.markElsewhere m a).events = s.events ∧
    (s.markElsewhere m a).free = s.free ∧ (s.markElsewhere m a).pending = s.pending ∧
    (s.markElsewhere m a).own = s.own ∧ (s.markElsewhere m a).settings = s.settings := by
  unfold State.markElsewhere
  simp

@[simp] theorem State.missStart_keeps (s : State) (p : Station) (q : StartProposal) (a : Instant) :
    (s.missStart p q a).tick = s.tick ∧ (s.missStart p q a).straps = s.straps ∧
    (s.missStart p q a).loader = s.loader ∧ (s.missStart p q a).frame = s.frame ∧
    (s.missStart p q a).rx = s.rx ∧ (s.missStart p q a).tx = s.tx ∧ (s.missStart p q a).race = s.race ∧
    (s.missStart p q a).image = s.image ∧ (s.missStart p q a).lamp = s.lamp ∧ (s.missStart p q a).cmd = s.cmd ∧
    (s.missStart p q a).free = s.free ∧ (s.missStart p q a).pending = s.pending ∧
    (s.missStart p q a).own = s.own ∧ (s.missStart p q a).settings = s.settings := by
  unfold State.missStart
  simp

@[simp] theorem State.testAdoption_keeps (s : State) (p : Station) (q : StartProposal) (a : Instant) :
    (s.testAdoption p q a).tick = s.tick ∧ (s.testAdoption p q a).straps = s.straps ∧
    (s.testAdoption p q a).loader = s.loader ∧ (s.testAdoption p q a).frame = s.frame ∧
    (s.testAdoption p q a).rx = s.rx ∧ (s.testAdoption p q a).image = s.image ∧
    (s.testAdoption p q a).cmd = s.cmd ∧ (s.testAdoption p q a).free = s.free ∧
    (s.testAdoption p q a).pending = s.pending ∧ (s.testAdoption p q a).own = s.own ∧
    (s.testAdoption p q a).settings = s.settings := by
  unfold State.testAdoption
  repeat' first | split | dsimp only
  all_goals simp

@[simp] theorem State.replaceWith_keeps (s : State) (p : Station) (q : StartProposal) (a : Instant) :
    (s.replaceWith p q a).tick = s.tick ∧ (s.replaceWith p q a).straps = s.straps ∧
    (s.replaceWith p q a).loader = s.loader ∧ (s.replaceWith p q a).frame = s.frame ∧
    (s.replaceWith p q a).rx = s.rx ∧ (s.replaceWith p q a).tx = s.tx ∧ (s.replaceWith p q a).image = s.image ∧
    (s.replaceWith p q a).cmd = s.cmd ∧ (s.replaceWith p q a).free = s.free ∧
    (s.replaceWith p q a).pending = s.pending ∧ (s.replaceWith p q a).own = s.own ∧
    (s.replaceWith p q a).settings = s.settings := by
  unfold State.replaceWith
  repeat' first | split | dsimp only
  all_goals simp

@[simp] theorem State.replaceWithout_keeps (s : State) (p : Station) (q : StartProposal) (a : Instant) :
    (s.replaceWithout p q a).tick = s.tick ∧ (s.replaceWithout p q a).straps = s.straps ∧
    (s.replaceWithout p q a).loader = s.loader ∧ (s.replaceWithout p q a).frame = s.frame ∧
    (s.replaceWithout p q a).rx = s.rx ∧ (s.replaceWithout p q a).image = s.image ∧
    (s.replaceWithout p q a).cmd = s.cmd ∧ (s.replaceWithout p q a).free = s.free ∧
    (s.replaceWithout p q a).pending = s.pending ∧ (s.replaceWithout p q a).own = s.own ∧
    (s.replaceWithout p q a).settings = s.settings := by
  unfold State.replaceWithout
  repeat' first | split | dsimp only
  all_goals simp

@[simp] theorem State.testReplacement_keeps (s : State) (r : RaceRecord) (p : Station) (q : StartProposal) (a : Instant) :
    (s.testReplacement r p q a).tick = s.tick ∧ (s.testReplacement r p q a).straps = s.straps ∧
    (s.testReplacement r p q a).loader = s.loader ∧ (s.testReplacement r p q a).frame = s.frame ∧
    (s.testReplacement r p q a).rx = s.rx ∧ (s.testReplacement r p q a).image = s.image ∧
    (s.testReplacement r p q a).cmd = s.cmd ∧ (s.testReplacement r p q a).free = s.free ∧
    (s.testReplacement r p q a).pending = s.pending ∧ (s.testReplacement r p q a).own = s.own ∧
    (s.testReplacement r p q a).settings = s.settings := by
  unfold State.testReplacement
  repeat' first | split | dsimp only
  all_goals simp

@[simp] theorem State.decideStart_keeps (s : State) (p : Station) (q : StartProposal) (a : Instant) :
    (s.decideStart p q a).tick = s.tick ∧ (s.decideStart p q a).straps = s.straps ∧
    (s.decideStart p q a).loader = s.loader ∧ (s.decideStart p q a).frame = s.frame ∧
    (s.decideStart p q a).rx = s.rx ∧ (s.decideStart p q a).image = s.image ∧
    (s.decideStart p q a).cmd = s.cmd ∧ (s.decideStart p q a).free = s.free ∧
    (s.decideStart p q a).pending = s.pending ∧ (s.decideStart p q a).own = s.own ∧
    (s.decideStart p q a).settings = s.settings := by
  unfold State.decideStart
  repeat' first | split | dsimp only
  all_goals simp

@[simp] theorem State.hearStart_keeps (s : State) (p : Station) (q : StartProposal) (a : Instant) :
    (s.hearStart p q a).tick = s.tick ∧ (s.hearStart p q a).straps = s.straps ∧
    (s.hearStart p q a).loader = s.loader ∧ (s.hearStart p q a).frame = s.frame ∧
    (s.hearStart p q a).rx = s.rx ∧ (s.hearStart p q a).image = s.image ∧ (s.hearStart p q a).cmd = s.cmd ∧
    (s.hearStart p q a).free = s.free ∧ (s.hearStart p q a).pending = s.pending ∧
    (s.hearStart p q a).own = s.own ∧ (s.hearStart p q a).settings = s.settings := by
  unfold State.hearStart
  simp

@[simp] theorem State.toOffline_keeps (s : State) :
    (s.toOffline).tick = s.tick ∧ (s.toOffline).straps = s.straps ∧ (s.toOffline).loader = s.loader ∧
    (s.toOffline).frame = s.frame ∧ (s.toOffline).rx = s.rx ∧ (s.toOffline).image = s.image ∧
    (s.toOffline).cmd = s.cmd ∧ (s.toOffline).events = s.events ∧ (s.toOffline).free = s.free ∧
    (s.toOffline).pending = s.pending ∧ (s.toOffline).own = s.own ∧ (s.toOffline).settings = s.settings := by
  unfold State.toOffline
  simp

@[simp] theorem State.close_keeps (s : State) (l : Option (BitVec 32)) (x : Bool) :
    (s.close l x).tick = s.tick ∧ (s.close l x).straps = s.straps ∧ (s.close l x).loader = s.loader ∧
    (s.close l x).frame = s.frame ∧ (s.close l x).rx = s.rx ∧ (s.close l x).peers = s.peers ∧
    (s.close l x).image = s.image ∧ (s.close l x).lamp = s.lamp ∧ (s.close l x).cmd = s.cmd ∧
    (s.close l x).free = s.free ∧ (s.close l x).pending = s.pending ∧ (s.close l x).own = s.own ∧
    (s.close l x).settings = s.settings ∧ ∀ p, (s.close l x).entry p = s.entry p := by
  unfold State.close
  repeat' first | split | dsimp only
  all_goals simp

@[simp] theorem State.closeIfGraceReached_keeps (s : State) (r : Bool) :
    (s.closeIfGraceReached r).tick = s.tick ∧ (s.closeIfGraceReached r).straps = s.straps ∧
    (s.closeIfGraceReached r).loader = s.loader ∧ (s.closeIfGraceReached r).frame = s.frame ∧
    (s.closeIfGraceReached r).rx = s.rx ∧ (s.closeIfGraceReached r).peers = s.peers ∧
    (s.closeIfGraceReached r).image = s.image ∧ (s.closeIfGraceReached r).lamp = s.lamp ∧
    (s.closeIfGraceReached r).cmd = s.cmd ∧ (s.closeIfGraceReached r).free = s.free ∧
    (s.closeIfGraceReached r).pending = s.pending ∧ (s.closeIfGraceReached r).own = s.own ∧
    (s.closeIfGraceReached r).settings = s.settings ∧ ∀ p, (s.closeIfGraceReached r).entry p = s.entry p := by
  unfold State.closeIfGraceReached
  repeat' first | split | dsimp only
  all_goals simp

@[simp] theorem State.closeIfAllDone_keeps (s : State) :
    (s.closeIfAllDone).tick = s.tick ∧ (s.closeIfAllDone).straps = s.straps ∧
    (s.closeIfAllDone).loader = s.loader ∧ (s.closeIfAllDone).frame = s.frame ∧ (s.closeIfAllDone).rx = s.rx ∧
    (s.closeIfAllDone).peers = s.peers ∧ (s.closeIfAllDone).image = s.image ∧
    (s.closeIfAllDone).lamp = s.lamp ∧ (s.closeIfAllDone).cmd = s.cmd ∧ (s.closeIfAllDone).free = s.free ∧
    (s.closeIfAllDone).pending = s.pending ∧ (s.closeIfAllDone).own = s.own ∧
    (s.closeIfAllDone).settings = s.settings ∧ ∀ p, (s.closeIfAllDone).entry p = s.entry p := by
  unfold State.closeIfAllDone
  repeat' first | split | dsimp only
  all_goals simp

@[simp] theorem State.joinEarliest_keeps (s : State) (x : BitVec 32) :
    (s.joinEarliest x).tick = s.tick ∧ (s.joinEarliest x).straps = s.straps ∧
    (s.joinEarliest x).loader = s.loader ∧ (s.joinEarliest x).frame = s.frame ∧ (s.joinEarliest x).rx = s.rx ∧
    (s.joinEarliest x).tx = s.tx ∧ (s.joinEarliest x).peers = s.peers ∧ (s.joinEarliest x).image = s.image ∧
    (s.joinEarliest x).lamp = s.lamp ∧ (s.joinEarliest x).cmd = s.cmd ∧ (s.joinEarliest x).events = s.events ∧
    (s.joinEarliest x).free = s.free ∧ (s.joinEarliest x).pending = s.pending ∧
    (s.joinEarliest x).own = s.own ∧ (s.joinEarliest x).settings = s.settings ∧
    ∀ p, (s.joinEarliest x).entry p = s.entry p := by
  unfold State.joinEarliest
  repeat' first | split | dsimp only
  all_goals simp

@[simp] theorem State.writeFinish_keeps (s : State) (p : Station) (x : BitVec 32) :
    (s.writeFinish p x).tick = s.tick ∧ (s.writeFinish p x).straps = s.straps ∧
    (s.writeFinish p x).loader = s.loader ∧ (s.writeFinish p x).frame = s.frame ∧
    (s.writeFinish p x).rx = s.rx ∧ (s.writeFinish p x).tx = s.tx ∧ (s.writeFinish p x).image = s.image ∧
    (s.writeFinish p x).lamp = s.lamp ∧ (s.writeFinish p x).cmd = s.cmd ∧
    (s.writeFinish p x).events = s.events ∧ (s.writeFinish p x).free = s.free ∧
    (s.writeFinish p x).pending = s.pending ∧ (s.writeFinish p x).own = s.own ∧
    (s.writeFinish p x).settings = s.settings := by
  unfold State.writeFinish
  repeat' first | split | dsimp only
  all_goals simp

@[simp] theorem State.hearFinish_keeps (s : State) (p : Station) (c : CarReport) (a : Instant) :
    (s.hearFinish p c a).tick = s.tick ∧ (s.hearFinish p c a).straps = s.straps ∧
    (s.hearFinish p c a).loader = s.loader ∧ (s.hearFinish p c a).frame = s.frame ∧
    (s.hearFinish p c a).rx = s.rx ∧ (s.hearFinish p c a).image = s.image ∧
    (s.hearFinish p c a).lamp = s.lamp ∧ (s.hearFinish p c a).cmd = s.cmd ∧
    (s.hearFinish p c a).free = s.free ∧ (s.hearFinish p c a).pending = s.pending ∧
    (s.hearFinish p c a).own = s.own ∧ (s.hearFinish p c a).settings = s.settings := by
  unfold State.hearFinish
  repeat' first | split | dsimp only
  all_goals simp

@[simp] theorem State.startBuild_keeps (s : State) (n : Word) (f : Instant) :
    (s.startBuild n f).tick = s.tick ∧ (s.startBuild n f).straps = s.straps ∧
    (s.startBuild n f).loader = s.loader ∧ (s.startBuild n f).frame = s.frame ∧ (s.startBuild n f).rx = s.rx ∧
    (s.startBuild n f).tx = s.tx ∧ (s.startBuild n f).peers = s.peers ∧ (s.startBuild n f).race = s.race ∧
    (s.startBuild n f).lamp = s.lamp ∧ (s.startBuild n f).cmd = s.cmd ∧ (s.startBuild n f).events = s.events ∧
    (s.startBuild n f).free = s.free ∧ (s.startBuild n f).pending = s.pending ∧
    (s.startBuild n f).own = s.own ∧ (s.startBuild n f).settings = s.settings ∧
    ∀ p, (s.startBuild n f).entry p = s.entry p := by
  unfold State.startBuild
  repeat' first | split | dsimp only
  all_goals simp

@[simp] theorem State.readEntry_keeps (s : State) (b : Build) (i : Image) (p : Station) :
    (s.readEntry b i p).tick = s.tick ∧ (s.readEntry b i p).straps = s.straps ∧
    (s.readEntry b i p).loader = s.loader ∧ (s.readEntry b i p).frame = s.frame ∧
    (s.readEntry b i p).rx = s.rx ∧ (s.readEntry b i p).tx = s.tx ∧ (s.readEntry b i p).race = s.race ∧
    (s.readEntry b i p).lamp = s.lamp ∧ (s.readEntry b i p).cmd = s.cmd ∧
    (s.readEntry b i p).events = s.events ∧ (s.readEntry b i p).free = s.free ∧
    (s.readEntry b i p).pending = s.pending ∧ (s.readEntry b i p).own = s.own ∧
    (s.readEntry b i p).settings = s.settings := by
  unfold State.readEntry
  repeat' first | split | dsimp only
  all_goals simp

@[simp] theorem State.dropStaleHeld_keeps (s : State) :
    (s.dropStaleHeld).tick = s.tick ∧ (s.dropStaleHeld).straps = s.straps ∧
    (s.dropStaleHeld).loader = s.loader ∧ (s.dropStaleHeld).frame = s.frame ∧ (s.dropStaleHeld).rx = s.rx ∧
    (s.dropStaleHeld).tx = s.tx ∧ (s.dropStaleHeld).race = s.race ∧ (s.dropStaleHeld).image = s.image ∧
    (s.dropStaleHeld).lamp = s.lamp ∧ (s.dropStaleHeld).cmd = s.cmd ∧ (s.dropStaleHeld).events = s.events ∧
    (s.dropStaleHeld).free = s.free ∧ (s.dropStaleHeld).pending = s.pending ∧ (s.dropStaleHeld).own = s.own ∧
    (s.dropStaleHeld).settings = s.settings := by
  unfold State.dropStaleHeld
  repeat' first | split | dsimp only
  all_goals simp

@[simp] theorem State.requestBuild_keeps (s : State) (c : Instant) :
    (s.requestBuild c).tick = s.tick ∧ (s.requestBuild c).straps = s.straps ∧
    (s.requestBuild c).loader = s.loader ∧ (s.requestBuild c).frame = s.frame ∧ (s.requestBuild c).rx = s.rx ∧
    (s.requestBuild c).tx = s.tx ∧ (s.requestBuild c).peers = s.peers ∧ (s.requestBuild c).race = s.race ∧
    (s.requestBuild c).lamp = s.lamp ∧ (s.requestBuild c).cmd = s.cmd ∧ (s.requestBuild c).events = s.events ∧
    (s.requestBuild c).free = s.free ∧ (s.requestBuild c).pending = s.pending ∧
    (s.requestBuild c).own = s.own ∧ (s.requestBuild c).settings = s.settings ∧
    ∀ p, (s.requestBuild c).entry p = s.entry p := by
  unfold State.requestBuild
  repeat' first | split | dsimp only
  all_goals simp

@[simp] theorem State.candidatePulse_keeps (s : State) (c : Instant) :
    (s.candidatePulse c).tick = s.tick ∧ (s.candidatePulse c).straps = s.straps ∧
    (s.candidatePulse c).loader = s.loader ∧ (s.candidatePulse c).rx = s.rx ∧ (s.candidatePulse c).tx = s.tx ∧
    (s.candidatePulse c).race = s.race ∧ (s.candidatePulse c).lamp = s.lamp ∧
    (s.candidatePulse c).cmd = s.cmd ∧ (s.candidatePulse c).free = s.free ∧
    (s.candidatePulse c).pending = s.pending ∧ (s.candidatePulse c).own = s.own ∧
    (s.candidatePulse c).settings = s.settings := by
  unfold State.candidatePulse
  repeat' first | split | dsimp only
  all_goals simp

@[simp] theorem State.clearStuck_keeps (s : State) :
    (s.clearStuck).tick = s.tick ∧ (s.clearStuck).straps = s.straps ∧ (s.clearStuck).loader = s.loader ∧
    (s.clearStuck).frame = s.frame ∧ (s.clearStuck).rx = s.rx ∧ (s.clearStuck).peers = s.peers ∧
    (s.clearStuck).race = s.race ∧ (s.clearStuck).image = s.image ∧ (s.clearStuck).lamp = s.lamp ∧
    (s.clearStuck).cmd = s.cmd ∧ (s.clearStuck).free = s.free ∧ (s.clearStuck).pending = s.pending ∧
    (s.clearStuck).own = s.own ∧ (s.clearStuck).settings = s.settings ∧
    ∀ p, (s.clearStuck).entry p = s.entry p := by
  unfold State.clearStuck
  repeat' first | split | dsimp only
  all_goals simp

@[simp] theorem State.endActivity_keeps (s : State) :
    (s.endActivity).tick = s.tick ∧ (s.endActivity).straps = s.straps ∧ (s.endActivity).loader = s.loader ∧
    (s.endActivity).frame = s.frame ∧ (s.endActivity).peers = s.peers ∧ (s.endActivity).race = s.race ∧
    (s.endActivity).image = s.image ∧ (s.endActivity).lamp = s.lamp ∧ (s.endActivity).cmd = s.cmd ∧
    (s.endActivity).events = s.events ∧ (s.endActivity).free = s.free ∧ (s.endActivity).pending = s.pending ∧
    (s.endActivity).own = s.own ∧ (s.endActivity).settings = s.settings ∧
    ∀ p, (s.endActivity).entry p = s.entry p := by
  unfold State.endActivity
  repeat' first | split | dsimp only
  all_goals simp

@[simp] theorem State.duplicate_keeps (s : State) (f : BusFrame) (a : Instant) :
    (s.duplicate f a).tick = s.tick ∧ (s.duplicate f a).straps = s.straps ∧
    (s.duplicate f a).loader = s.loader ∧ (s.duplicate f a).frame = s.frame ∧ (s.duplicate f a).rx = s.rx ∧
    (s.duplicate f a).image = s.image ∧ (s.duplicate f a).cmd = s.cmd ∧ (s.duplicate f a).free = s.free ∧
    (s.duplicate f a).pending = s.pending ∧ (s.duplicate f a).own = s.own ∧
    (s.duplicate f a).settings = s.settings := by
  unfold State.duplicate
  repeat' first | split | dsimp only
  all_goals simp

@[simp] theorem State.hearPayload_keeps (s : State) (p : Station) (x : Payload) (a : Instant) :
    (s.hearPayload p x a).tick = s.tick ∧ (s.hearPayload p x a).straps = s.straps ∧
    (s.hearPayload p x a).loader = s.loader ∧ (s.hearPayload p x a).frame = s.frame ∧
    (s.hearPayload p x a).rx = s.rx ∧ (s.hearPayload p x a).image = s.image ∧
    (s.hearPayload p x a).cmd = s.cmd ∧ (s.hearPayload p x a).free = s.free ∧
    (s.hearPayload p x a).pending = s.pending ∧ (s.hearPayload p x a).own = s.own ∧
    (s.hearPayload p x a).settings = s.settings := by
  unfold State.hearPayload
  repeat' first | split | dsimp only
  all_goals simp

@[simp] theorem State.hearReport_keeps (s : State) (p : Station) (x : Payload) (a : Instant) :
    (s.hearReport p x a).tick = s.tick ∧ (s.hearReport p x a).straps = s.straps ∧
    (s.hearReport p x a).loader = s.loader ∧ (s.hearReport p x a).frame = s.frame ∧
    (s.hearReport p x a).rx = s.rx ∧ (s.hearReport p x a).image = s.image ∧
    (s.hearReport p x a).lamp = s.lamp ∧ (s.hearReport p x a).cmd = s.cmd ∧
    (s.hearReport p x a).free = s.free ∧ (s.hearReport p x a).pending = s.pending ∧
    (s.hearReport p x a).own = s.own ∧ (s.hearReport p x a).settings = s.settings := by
  unfold State.hearReport
  repeat' first | split | dsimp only
  all_goals simp

@[simp] theorem State.handOn_keeps (s : State) (f : BusFrame) (a : Instant) :
    (s.handOn f a).tick = s.tick ∧ (s.handOn f a).straps = s.straps ∧ (s.handOn f a).loader = s.loader ∧
    (s.handOn f a).frame = s.frame ∧ (s.handOn f a).rx = s.rx ∧ (s.handOn f a).image = s.image ∧
    (s.handOn f a).cmd = s.cmd ∧ (s.handOn f a).free = s.free ∧ (s.handOn f a).pending = s.pending ∧
    (s.handOn f a).own = s.own ∧ (s.handOn f a).settings = s.settings := by
  unfold State.handOn
  repeat' first | split | dsimp only
  all_goals simp

@[simp] theorem State.hear_keeps (s : State) (f : BusFrame) (a : Instant) :
    (s.hear f a).tick = s.tick ∧ (s.hear f a).straps = s.straps ∧ (s.hear f a).loader = s.loader ∧
    (s.hear f a).frame = s.frame ∧ (s.hear f a).image = s.image ∧ (s.hear f a).cmd = s.cmd ∧
    (s.hear f a).free = s.free ∧ (s.hear f a).pending = s.pending ∧ (s.hear f a).own = s.own ∧
    (s.hear f a).settings = s.settings := by
  unfold State.hear
  repeat' first | split | dsimp only
  all_goals simp

@[simp] theorem State.settleSource_keeps (s : State) (x : Source) (d : Instant) :
    (s.settleSource x d).tick = s.tick ∧ (s.settleSource x d).straps = s.straps ∧
    (s.settleSource x d).loader = s.loader ∧ (s.settleSource x d).frame = s.frame ∧
    (s.settleSource x d).rx = s.rx ∧ (s.settleSource x d).peers = s.peers ∧
    (s.settleSource x d).image = s.image ∧ (s.settleSource x d).lamp = s.lamp ∧
    (s.settleSource x d).cmd = s.cmd ∧ (s.settleSource x d).events = s.events ∧
    (s.settleSource x d).free = s.free ∧ (s.settleSource x d).pending = s.pending ∧
    (s.settleSource x d).own = s.own ∧ (s.settleSource x d).settings = s.settings ∧
    ∀ p, (s.settleSource x d).entry p = s.entry p := by
  unfold State.settleSource
  repeat' first | split | dsimp only
  all_goals simp

@[simp] theorem State.hearOwn_keeps (s : State) (f : BusFrame) (a : Instant) :
    (s.hearOwn f a).tick = s.tick ∧ (s.hearOwn f a).straps = s.straps ∧ (s.hearOwn f a).loader = s.loader ∧
    (s.hearOwn f a).frame = s.frame ∧ (s.hearOwn f a).rx = s.rx ∧ (s.hearOwn f a).image = s.image ∧
    (s.hearOwn f a).cmd = s.cmd ∧ (s.hearOwn f a).free = s.free ∧ (s.hearOwn f a).pending = s.pending ∧
    (s.hearOwn f a).own = s.own ∧ (s.hearOwn f a).settings = s.settings := by
  unfold State.hearOwn
  repeat' first | split | dsimp only
  all_goals simp

@[simp] theorem State.readBack_keeps (s : State) (f : InFlight) :
    (s.readBack f).tick = s.tick ∧ (s.readBack f).straps = s.straps ∧ (s.readBack f).loader = s.loader ∧
    (s.readBack f).frame = s.frame ∧ (s.readBack f).image = s.image ∧ (s.readBack f).cmd = s.cmd ∧
    (s.readBack f).free = s.free ∧ (s.readBack f).pending = s.pending ∧ (s.readBack f).own = s.own ∧
    (s.readBack f).settings = s.settings := by
  unfold State.readBack
  repeat' first | split | dsimp only
  all_goals simp

@[simp] theorem State.giveUpCar_keeps (s : State) :
    (s.giveUpCar).tick = s.tick ∧ (s.giveUpCar).straps = s.straps ∧ (s.giveUpCar).loader = s.loader ∧
    (s.giveUpCar).frame = s.frame ∧ (s.giveUpCar).rx = s.rx ∧ (s.giveUpCar).peers = s.peers ∧
    (s.giveUpCar).race = s.race ∧ (s.giveUpCar).image = s.image ∧ (s.giveUpCar).lamp = s.lamp ∧
    (s.giveUpCar).cmd = s.cmd ∧ (s.giveUpCar).events = s.events ∧ (s.giveUpCar).free = s.free ∧
    (s.giveUpCar).pending = s.pending ∧ (s.giveUpCar).own = s.own ∧ (s.giveUpCar).settings = s.settings ∧
    ∀ p, (s.giveUpCar).entry p = s.entry p := by
  unfold State.giveUpCar
  repeat' first | split | dsimp only
  all_goals simp

@[simp] theorem State.giveUpResend_keeps (s : State) :
    (s.giveUpResend).tick = s.tick ∧ (s.giveUpResend).straps = s.straps ∧ (s.giveUpResend).loader = s.loader ∧
    (s.giveUpResend).frame = s.frame ∧ (s.giveUpResend).rx = s.rx ∧ (s.giveUpResend).peers = s.peers ∧
    (s.giveUpResend).race = s.race ∧ (s.giveUpResend).image = s.image ∧ (s.giveUpResend).lamp = s.lamp ∧
    (s.giveUpResend).cmd = s.cmd ∧ (s.giveUpResend).events = s.events ∧ (s.giveUpResend).free = s.free ∧
    (s.giveUpResend).pending = s.pending ∧ (s.giveUpResend).own = s.own ∧
    (s.giveUpResend).settings = s.settings ∧ ∀ p, (s.giveUpResend).entry p = s.entry p := by
  unfold State.giveUpResend
  repeat' first | split | dsimp only
  all_goals simp

@[simp] theorem State.giveUpSource_keeps (s : State) (x : Source) :
    (s.giveUpSource x).tick = s.tick ∧ (s.giveUpSource x).straps = s.straps ∧
    (s.giveUpSource x).loader = s.loader ∧ (s.giveUpSource x).frame = s.frame ∧ (s.giveUpSource x).rx = s.rx ∧
    (s.giveUpSource x).peers = s.peers ∧ (s.giveUpSource x).image = s.image ∧
    (s.giveUpSource x).lamp = s.lamp ∧ (s.giveUpSource x).cmd = s.cmd ∧ (s.giveUpSource x).events = s.events ∧
    (s.giveUpSource x).free = s.free ∧ (s.giveUpSource x).pending = s.pending ∧
    (s.giveUpSource x).own = s.own ∧ (s.giveUpSource x).settings = s.settings ∧
    ∀ p, (s.giveUpSource x).entry p = s.entry p := by
  unfold State.giveUpSource
  repeat' first | split | dsimp only
  all_goals simp

@[simp] theorem State.giveUp_keeps (s : State) (x : Source) :
    (s.giveUp x).tick = s.tick ∧ (s.giveUp x).straps = s.straps ∧ (s.giveUp x).loader = s.loader ∧
    (s.giveUp x).frame = s.frame ∧ (s.giveUp x).rx = s.rx ∧ (s.giveUp x).peers = s.peers ∧
    (s.giveUp x).image = s.image ∧ (s.giveUp x).lamp = s.lamp ∧ (s.giveUp x).cmd = s.cmd ∧
    (s.giveUp x).free = s.free ∧ (s.giveUp x).pending = s.pending ∧ (s.giveUp x).own = s.own ∧
    (s.giveUp x).settings = s.settings ∧ ∀ p, (s.giveUp x).entry p = s.entry p := by
  unfold State.giveUp
  repeat' first | split | dsimp only
  all_goals simp

@[simp] theorem State.collide_keeps (s : State) :
    (s.collide).tick = s.tick ∧ (s.collide).straps = s.straps ∧ (s.collide).loader = s.loader ∧
    (s.collide).frame = s.frame ∧ (s.collide).peers = s.peers ∧ (s.collide).image = s.image ∧
    (s.collide).lamp = s.lamp ∧ (s.collide).cmd = s.cmd ∧ (s.collide).free = s.free ∧
    (s.collide).pending = s.pending ∧ (s.collide).own = s.own ∧ (s.collide).settings = s.settings ∧
    ∀ p, (s.collide).entry p = s.entry p := by
  unfold State.collide
  repeat' first | split | dsimp only
  all_goals simp

@[simp] theorem State.lobbyExpiry_keeps (s : State) (i : Instant) :
    (s.lobbyExpiry i).tick = s.tick ∧ (s.lobbyExpiry i).straps = s.straps ∧
    (s.lobbyExpiry i).loader = s.loader ∧ (s.lobbyExpiry i).frame = s.frame ∧ (s.lobbyExpiry i).rx = s.rx ∧
    (s.lobbyExpiry i).peers = s.peers ∧ (s.lobbyExpiry i).image = s.image ∧ (s.lobbyExpiry i).lamp = s.lamp ∧
    (s.lobbyExpiry i).cmd = s.cmd ∧ (s.lobbyExpiry i).free = s.free ∧ (s.lobbyExpiry i).pending = s.pending ∧
    (s.lobbyExpiry i).own = s.own ∧ (s.lobbyExpiry i).settings = s.settings ∧
    ∀ p, (s.lobbyExpiry i).entry p = s.entry p := by
  unfold State.lobbyExpiry
  repeat' first | split | dsimp only
  all_goals simp

@[simp] theorem State.goGreen_keeps (s : State) (r : RaceRecord) :
    (s.goGreen r).tick = s.tick ∧ (s.goGreen r).straps = s.straps ∧ (s.goGreen r).loader = s.loader ∧
    (s.goGreen r).frame = s.frame ∧ (s.goGreen r).rx = s.rx ∧ (s.goGreen r).image = s.image ∧
    (s.goGreen r).lamp = s.lamp ∧ (s.goGreen r).cmd = s.cmd ∧ (s.goGreen r).free = s.free ∧
    (s.goGreen r).pending = s.pending ∧ (s.goGreen r).own = s.own ∧ (s.goGreen r).settings = s.settings := by
  unfold State.goGreen
  repeat' first | split | dsimp only
  all_goals simp

@[simp] theorem State.putLoaded_keeps (s : State) :
    (s.putLoaded).tick = s.tick ∧ (s.putLoaded).straps = s.straps ∧ (s.putLoaded).frame = s.frame ∧
    (s.putLoaded).rx = s.rx ∧ (s.putLoaded).tx = s.tx ∧ (s.putLoaded).peers = s.peers ∧
    (s.putLoaded).race = s.race ∧ (s.putLoaded).image = s.image ∧ (s.putLoaded).lamp = s.lamp ∧
    (s.putLoaded).cmd = s.cmd ∧ (s.putLoaded).free = s.free ∧ (s.putLoaded).pending = s.pending ∧
    (s.putLoaded).own = s.own ∧ ∀ p, (s.putLoaded).entry p = s.entry p := by
  unfold State.putLoaded
  repeat' first | split | dsimp only
  all_goals simp

@[simp] theorem State.startBlocks_keeps (s : State) :
    (s.startBlocks).tick = s.tick ∧ (s.startBlocks).straps = s.straps ∧ (s.startBlocks).loader = s.loader ∧
    (s.startBlocks).peers = s.peers ∧ (s.startBlocks).race = s.race ∧ (s.startBlocks).image = s.image ∧
    (s.startBlocks).events = s.events ∧ (s.startBlocks).free = s.free ∧ (s.startBlocks).pending = s.pending ∧
    (s.startBlocks).own = s.own ∧ (s.startBlocks).settings = s.settings ∧
    ∀ p, (s.startBlocks).entry p = s.entry p := by
  unfold State.startBlocks
  repeat' first | split | dsimp only
  all_goals simp

@[simp] theorem State.enterLobby_keeps (s : State) (r : LobbyInfo) :
    (s.enterLobby r).tick = s.tick ∧ (s.enterLobby r).straps = s.straps ∧ (s.enterLobby r).loader = s.loader ∧
    (s.enterLobby r).frame = s.frame ∧ (s.enterLobby r).rx = s.rx ∧ (s.enterLobby r).peers = s.peers ∧
    (s.enterLobby r).image = s.image ∧ (s.enterLobby r).lamp = s.lamp ∧ (s.enterLobby r).cmd = s.cmd ∧
    (s.enterLobby r).events = s.events ∧ (s.enterLobby r).free = s.free ∧
    (s.enterLobby r).pending = s.pending ∧ (s.enterLobby r).own = s.own ∧
    (s.enterLobby r).settings = s.settings ∧ ∀ p, (s.enterLobby r).entry p = s.entry p := by
  unfold State.enterLobby
  repeat' first | split | dsimp only
  all_goals simp

@[simp] theorem State.acceptCar_keeps (s : State) (c : CarValues) (n : Word) :
    (s.acceptCar c n).tick = s.tick ∧ (s.acceptCar c n).straps = s.straps ∧
    (s.acceptCar c n).loader = s.loader ∧ (s.acceptCar c n).frame = s.frame ∧ (s.acceptCar c n).rx = s.rx ∧
    (s.acceptCar c n).race = s.race ∧ (s.acceptCar c n).image = s.image ∧ (s.acceptCar c n).lamp = s.lamp ∧
    (s.acceptCar c n).cmd = s.cmd ∧ (s.acceptCar c n).events = s.events ∧ (s.acceptCar c n).free = s.free ∧
    (s.acceptCar c n).pending = s.pending ∧ (s.acceptCar c n).own = s.own ∧
    (s.acceptCar c n).settings = s.settings := by
  unfold State.acceptCar
  repeat' first | split | dsimp only
  all_goals simp

@[simp] theorem State.ownFinishes_keeps (s : State) (x : BitVec 32) (a : Instant) :
    (s.ownFinishes x a).tick = s.tick ∧ (s.ownFinishes x a).straps = s.straps ∧
    (s.ownFinishes x a).loader = s.loader ∧ (s.ownFinishes x a).frame = s.frame ∧
    (s.ownFinishes x a).rx = s.rx ∧ (s.ownFinishes x a).image = s.image ∧ (s.ownFinishes x a).lamp = s.lamp ∧
    (s.ownFinishes x a).cmd = s.cmd ∧ (s.ownFinishes x a).free = s.free ∧
    (s.ownFinishes x a).pending = s.pending ∧ (s.ownFinishes x a).own = s.own ∧
    (s.ownFinishes x a).settings = s.settings := by
  unfold State.ownFinishes
  repeat' first | split | dsimp only
  all_goals simp

@[simp] theorem State.acceptLap_keeps (s : State) (x : BitVec 32) (a : Instant) :
    (s.acceptLap x a).tick = s.tick ∧ (s.acceptLap x a).straps = s.straps ∧
    (s.acceptLap x a).loader = s.loader ∧ (s.acceptLap x a).frame = s.frame ∧ (s.acceptLap x a).rx = s.rx ∧
    (s.acceptLap x a).image = s.image ∧ (s.acceptLap x a).lamp = s.lamp ∧ (s.acceptLap x a).cmd = s.cmd ∧
    (s.acceptLap x a).free = s.free ∧ (s.acceptLap x a).pending = s.pending ∧ (s.acceptLap x a).own = s.own ∧
    (s.acceptLap x a).settings = s.settings := by
  unfold State.acceptLap
  repeat' first | split | dsimp only
  all_goals simp

@[simp] theorem State.leaveForAttract_keeps (s : State) :
    (s.leaveForAttract).tick = s.tick ∧ (s.leaveForAttract).straps = s.straps ∧
    (s.leaveForAttract).loader = s.loader ∧ (s.leaveForAttract).frame = s.frame ∧
    (s.leaveForAttract).rx = s.rx ∧ (s.leaveForAttract).image = s.image ∧ (s.leaveForAttract).cmd = s.cmd ∧
    (s.leaveForAttract).free = s.free ∧ (s.leaveForAttract).pending = s.pending ∧
    (s.leaveForAttract).own = s.own ∧ (s.leaveForAttract).settings = s.settings := by
  unfold State.leaveForAttract
  repeat' first | split | dsimp only
  all_goals simp

@[simp] theorem State.releaseHead_keeps (s : State) :
    (s.releaseHead).tick = s.tick ∧ (s.releaseHead).straps = s.straps ∧ (s.releaseHead).loader = s.loader ∧
    (s.releaseHead).frame = s.frame ∧ (s.releaseHead).rx = s.rx ∧ (s.releaseHead).tx = s.tx ∧
    (s.releaseHead).peers = s.peers ∧ (s.releaseHead).race = s.race ∧ (s.releaseHead).image = s.image ∧
    (s.releaseHead).lamp = s.lamp ∧ (s.releaseHead).cmd = s.cmd ∧ (s.releaseHead).free = s.free ∧
    (s.releaseHead).pending = s.pending ∧ (s.releaseHead).own = s.own ∧ (s.releaseHead).settings = s.settings ∧
    ∀ p, (s.releaseHead).entry p = s.entry p := by
  unfold State.releaseHead
  repeat' first | split | dsimp only
  all_goals simp

@[simp] theorem State.writeEnable_keeps (s : State) (v : Word) :
    (s.writeEnable v).tick = s.tick ∧ (s.writeEnable v).straps = s.straps ∧
    (s.writeEnable v).loader = s.loader ∧ (s.writeEnable v).frame = s.frame ∧ (s.writeEnable v).rx = s.rx ∧
    (s.writeEnable v).tx = s.tx ∧ (s.writeEnable v).peers = s.peers ∧ (s.writeEnable v).race = s.race ∧
    (s.writeEnable v).image = s.image ∧ (s.writeEnable v).lamp = s.lamp ∧ (s.writeEnable v).cmd = s.cmd ∧
    (s.writeEnable v).free = s.free ∧ (s.writeEnable v).pending = s.pending ∧ (s.writeEnable v).own = s.own ∧
    (s.writeEnable v).settings = s.settings ∧ ∀ p, (s.writeEnable v).entry p = s.entry p := by
  unfold State.writeEnable
  repeat' first | split | dsimp only
  all_goals simp

@[simp] theorem State.writeArgument_keeps (s : State) (i : Nat) (v : Word) :
    (s.writeArgument i v).tick = s.tick ∧ (s.writeArgument i v).straps = s.straps ∧
    (s.writeArgument i v).loader = s.loader ∧ (s.writeArgument i v).frame = s.frame ∧
    (s.writeArgument i v).rx = s.rx ∧ (s.writeArgument i v).tx = s.tx ∧ (s.writeArgument i v).peers = s.peers ∧
    (s.writeArgument i v).race = s.race ∧ (s.writeArgument i v).image = s.image ∧
    (s.writeArgument i v).lamp = s.lamp ∧ (s.writeArgument i v).events = s.events ∧
    (s.writeArgument i v).free = s.free ∧ (s.writeArgument i v).pending = s.pending ∧
    (s.writeArgument i v).own = s.own ∧ (s.writeArgument i v).settings = s.settings ∧
    ∀ p, (s.writeArgument i v).entry p = s.entry p := by
  unfold State.writeArgument
  repeat' first | split | dsimp only
  all_goals simp

@[simp] theorem State.sampleInput_keeps (s : State) :
    (s.sampleInput).tick = s.tick ∧ (s.sampleInput).straps = s.straps ∧ (s.sampleInput).loader = s.loader ∧
    (s.sampleInput).rx = s.rx ∧ (s.sampleInput).tx = s.tx ∧ (s.sampleInput).peers = s.peers ∧
    (s.sampleInput).race = s.race ∧ (s.sampleInput).image = s.image ∧ (s.sampleInput).lamp = s.lamp ∧
    (s.sampleInput).cmd = s.cmd ∧ (s.sampleInput).events = s.events ∧ (s.sampleInput).pending = s.pending ∧
    (s.sampleInput).own = s.own ∧ (s.sampleInput).settings = s.settings ∧
    ∀ p, (s.sampleInput).entry p = s.entry p := by
  unfold State.sampleInput
  simp

@[simp] theorem State.confirmCandidate_keeps (s : State) :
    (s.confirmCandidate).tick = s.tick ∧ (s.confirmCandidate).straps = s.straps ∧
    (s.confirmCandidate).loader = s.loader ∧ (s.confirmCandidate).rx = s.rx ∧ (s.confirmCandidate).tx = s.tx ∧
    (s.confirmCandidate).race = s.race ∧ (s.confirmCandidate).lamp = s.lamp ∧
    (s.confirmCandidate).cmd = s.cmd ∧ (s.confirmCandidate).free = s.free ∧
    (s.confirmCandidate).pending = s.pending ∧ (s.confirmCandidate).own = s.own ∧
    (s.confirmCandidate).settings = s.settings := by
  unfold State.confirmCandidate
  simp

@[simp] theorem State.advance_keeps (s : State) :
    (s.advance).straps = s.straps ∧ (s.advance).loader = s.loader ∧
    (s.advance).rx = s.rx ∧ (s.advance).peers = s.peers ∧ (s.advance).race = s.race ∧
    (s.advance).image = s.image ∧ (s.advance).lamp = s.lamp ∧ (s.advance).cmd = s.cmd ∧
    (s.advance).events = s.events ∧ (s.advance).pending = s.pending ∧
    (s.advance).own = s.own ∧ (s.advance).settings = s.settings ∧ ∀ p, (s.advance).entry p = s.entry p := by
  unfold State.advance
  simp

@[simp] theorem State.putSettings_keeps (s : State) (t : Settings) (l : Word) :
    ((s.putSettings t l).state).tick = s.tick ∧ ((s.putSettings t l).state).straps = s.straps ∧
    ((s.putSettings t l).state).frame = s.frame ∧ ((s.putSettings t l).state).rx = s.rx ∧
    ((s.putSettings t l).state).tx = s.tx ∧ ((s.putSettings t l).state).peers = s.peers ∧
    ((s.putSettings t l).state).race = s.race ∧ ((s.putSettings t l).state).image = s.image ∧
    ((s.putSettings t l).state).cmd = s.cmd ∧ ((s.putSettings t l).state).events = s.events ∧
    ((s.putSettings t l).state).free = s.free ∧ ((s.putSettings t l).state).pending = s.pending ∧
    ((s.putSettings t l).state).own = s.own ∧ ∀ p, ((s.putSettings t l).state).entry p = s.entry p := by
  unfold State.putSettings
  repeat' first | split | dsimp only
  all_goals simp

@[simp] theorem State.driveOutput_keeps (s : State) (p : Pin) (b : Bool) :
    ((s.driveOutput p b).state).tick = s.tick ∧ ((s.driveOutput p b).state).straps = s.straps ∧
    ((s.driveOutput p b).state).loader = s.loader ∧ ((s.driveOutput p b).state).frame = s.frame ∧
    ((s.driveOutput p b).state).rx = s.rx ∧ ((s.driveOutput p b).state).tx = s.tx ∧
    ((s.driveOutput p b).state).peers = s.peers ∧ ((s.driveOutput p b).state).race = s.race ∧
    ((s.driveOutput p b).state).image = s.image ∧ ((s.driveOutput p b).state).cmd = s.cmd ∧
    ((s.driveOutput p b).state).events = s.events ∧ ((s.driveOutput p b).state).free = s.free ∧
    ((s.driveOutput p b).state).pending = s.pending ∧ ((s.driveOutput p b).state).own = s.own ∧
    ((s.driveOutput p b).state).settings = s.settings ∧ ∀ x, ((s.driveOutput p b).state).entry x = s.entry x := by
  unfold State.driveOutput
  repeat' first | split | dsimp only
  all_goals simp

@[simp] theorem State.refuseOutput_keeps (s : State) (r : Result) :
    ((s.refuseOutput r).state).tick = s.tick ∧ ((s.refuseOutput r).state).straps = s.straps ∧
    ((s.refuseOutput r).state).loader = s.loader ∧ ((s.refuseOutput r).state).frame = s.frame ∧
    ((s.refuseOutput r).state).rx = s.rx ∧ ((s.refuseOutput r).state).tx = s.tx ∧
    ((s.refuseOutput r).state).peers = s.peers ∧ ((s.refuseOutput r).state).race = s.race ∧
    ((s.refuseOutput r).state).image = s.image ∧ ((s.refuseOutput r).state).lamp = s.lamp ∧
    ((s.refuseOutput r).state).cmd = s.cmd ∧ ((s.refuseOutput r).state).events = s.events ∧
    ((s.refuseOutput r).state).free = s.free ∧ ((s.refuseOutput r).state).pending = s.pending ∧
    ((s.refuseOutput r).state).own = s.own ∧ ((s.refuseOutput r).state).settings = s.settings ∧
    ∀ p, ((s.refuseOutput r).state).entry p = s.entry p := by
  unfold State.refuseOutput
  repeat' first | split | dsimp only
  all_goals simp

@[simp] theorem State.refuse_keeps (s : State) (r : Result) :
    ((s.refuse r).state).tick = s.tick ∧ ((s.refuse r).state).straps = s.straps ∧
    ((s.refuse r).state).loader = s.loader ∧ ((s.refuse r).state).frame = s.frame ∧
    ((s.refuse r).state).rx = s.rx ∧ ((s.refuse r).state).tx = s.tx ∧ ((s.refuse r).state).peers = s.peers ∧
    ((s.refuse r).state).race = s.race ∧ ((s.refuse r).state).image = s.image ∧
    ((s.refuse r).state).lamp = s.lamp ∧ ((s.refuse r).state).cmd = s.cmd ∧
    ((s.refuse r).state).events = s.events ∧ ((s.refuse r).state).free = s.free ∧
    ((s.refuse r).state).pending = s.pending ∧ ((s.refuse r).state).own = s.own ∧
    ((s.refuse r).state).settings = s.settings ∧ ∀ p, ((s.refuse r).state).entry p = s.entry p := by
  unfold State.refuse
  repeat' first | split | dsimp only
  all_goals simp

@[simp] theorem State.configure_keeps (s : State) :
    ((s.configure).state).tick = s.tick ∧ ((s.configure).state).straps = s.straps ∧
    ((s.configure).state).frame = s.frame ∧ ((s.configure).state).rx = s.rx ∧ ((s.configure).state).tx = s.tx ∧
    ((s.configure).state).peers = s.peers ∧ ((s.configure).state).race = s.race ∧
    ((s.configure).state).image = s.image ∧ ((s.configure).state).cmd = s.cmd ∧
    ((s.configure).state).events = s.events ∧ ((s.configure).state).free = s.free ∧
    ((s.configure).state).pending = s.pending ∧ ((s.configure).state).own = s.own ∧
    ∀ p, ((s.configure).state).entry p = s.entry p := by
  unfold State.configure
  repeat' first | split | dsimp only
  all_goals simp

@[simp] theorem State.readConfig_keeps (s : State) :
    ((s.readConfig).state).tick = s.tick ∧ ((s.readConfig).state).straps = s.straps ∧
    ((s.readConfig).state).loader = s.loader ∧ ((s.readConfig).state).frame = s.frame ∧
    ((s.readConfig).state).rx = s.rx ∧ ((s.readConfig).state).tx = s.tx ∧
    ((s.readConfig).state).peers = s.peers ∧ ((s.readConfig).state).race = s.race ∧
    ((s.readConfig).state).image = s.image ∧ ((s.readConfig).state).lamp = s.lamp ∧
    ((s.readConfig).state).cmd = s.cmd ∧ ((s.readConfig).state).events = s.events ∧
    ((s.readConfig).state).free = s.free ∧ ((s.readConfig).state).pending = s.pending ∧
    ((s.readConfig).state).own = s.own ∧ ((s.readConfig).state).settings = s.settings ∧
    ∀ p, ((s.readConfig).state).entry p = s.entry p := by
  unfold State.readConfig
  repeat' first | split | dsimp only
  all_goals simp

@[simp] theorem State.goOnline_keeps (s : State) :
    ((s.goOnline).state).tick = s.tick ∧ ((s.goOnline).state).straps = s.straps ∧
    ((s.goOnline).state).loader = s.loader ∧ ((s.goOnline).state).frame = s.frame ∧
    ((s.goOnline).state).rx = s.rx ∧ ((s.goOnline).state).image = s.image ∧
    ((s.goOnline).state).lamp = s.lamp ∧ ((s.goOnline).state).cmd = s.cmd ∧
    ((s.goOnline).state).events = s.events ∧ ((s.goOnline).state).free = s.free ∧
    ((s.goOnline).state).pending = s.pending ∧ ((s.goOnline).state).own = s.own ∧
    ((s.goOnline).state).settings = s.settings := by
  unfold State.goOnline
  repeat' first | split | dsimp only
  all_goals simp

@[simp] theorem State.goOffline_keeps (s : State) :
    ((s.goOffline).state).tick = s.tick ∧ ((s.goOffline).state).straps = s.straps ∧
    ((s.goOffline).state).loader = s.loader ∧ ((s.goOffline).state).frame = s.frame ∧
    ((s.goOffline).state).rx = s.rx ∧ ((s.goOffline).state).image = s.image ∧
    ((s.goOffline).state).cmd = s.cmd ∧ ((s.goOffline).state).free = s.free ∧
    ((s.goOffline).state).pending = s.pending ∧ ((s.goOffline).state).own = s.own ∧
    ((s.goOffline).state).settings = s.settings := by
  unfold State.goOffline
  repeat' first | split | dsimp only
  all_goals simp

@[simp] theorem State.restart_keeps (s : State) :
    ((s.restart).state).tick = s.tick ∧ ((s.restart).state).straps = s.straps ∧
    ((s.restart).state).loader = s.loader ∧ ((s.restart).state).frame = s.frame ∧
    ((s.restart).state).cmd = s.cmd ∧ ((s.restart).state).free = s.free ∧
    ((s.restart).state).pending = s.pending ∧ ((s.restart).state).own = s.own ∧
    ((s.restart).state).settings = s.settings := by
  unfold State.restart
  repeat' first | split | dsimp only
  all_goals simp

@[simp] theorem State.enter_keeps (s : State) :
    ((s.enter).state).tick = s.tick ∧ ((s.enter).state).straps = s.straps ∧
    ((s.enter).state).loader = s.loader ∧ ((s.enter).state).frame = s.frame ∧ ((s.enter).state).rx = s.rx ∧
    ((s.enter).state).peers = s.peers ∧ ((s.enter).state).image = s.image ∧ ((s.enter).state).lamp = s.lamp ∧
    ((s.enter).state).cmd = s.cmd ∧ ((s.enter).state).events = s.events ∧ ((s.enter).state).free = s.free ∧
    ((s.enter).state).pending = s.pending ∧ ((s.enter).state).own = s.own ∧
    ((s.enter).state).settings = s.settings ∧ ∀ p, ((s.enter).state).entry p = s.entry p := by
  unfold State.enter
  repeat' first | split | dsimp only
  all_goals simp

@[simp] theorem State.cancelEntry_keeps (s : State) :
    ((s.cancelEntry).state).tick = s.tick ∧ ((s.cancelEntry).state).straps = s.straps ∧
    ((s.cancelEntry).state).loader = s.loader ∧ ((s.cancelEntry).state).frame = s.frame ∧
    ((s.cancelEntry).state).rx = s.rx ∧ ((s.cancelEntry).state).peers = s.peers ∧
    ((s.cancelEntry).state).image = s.image ∧ ((s.cancelEntry).state).lamp = s.lamp ∧
    ((s.cancelEntry).state).cmd = s.cmd ∧ ((s.cancelEntry).state).events = s.events ∧
    ((s.cancelEntry).state).free = s.free ∧ ((s.cancelEntry).state).pending = s.pending ∧
    ((s.cancelEntry).state).own = s.own ∧ ((s.cancelEntry).state).settings = s.settings ∧
    ∀ p, ((s.cancelEntry).state).entry p = s.entry p := by
  unfold State.cancelEntry
  repeat' first | split | dsimp only
  all_goals simp

@[simp] theorem State.takePostCar_keeps (s : State) :
    ((s.takePostCar).state).tick = s.tick ∧ ((s.takePostCar).state).straps = s.straps ∧
    ((s.takePostCar).state).loader = s.loader ∧ ((s.takePostCar).state).frame = s.frame ∧
    ((s.takePostCar).state).rx = s.rx ∧ ((s.takePostCar).state).race = s.race ∧
    ((s.takePostCar).state).image = s.image ∧ ((s.takePostCar).state).lamp = s.lamp ∧
    ((s.takePostCar).state).cmd = s.cmd ∧ ((s.takePostCar).state).events = s.events ∧
    ((s.takePostCar).state).free = s.free ∧ ((s.takePostCar).state).pending = s.pending ∧
    ((s.takePostCar).state).own = s.own ∧ ((s.takePostCar).state).settings = s.settings := by
  unfold State.takePostCar
  repeat' first | split | dsimp only
  all_goals simp

@[simp] theorem State.lap_keeps (s : State) :
    ((s.lap).state).tick = s.tick ∧ ((s.lap).state).straps = s.straps ∧ ((s.lap).state).loader = s.loader ∧
    ((s.lap).state).frame = s.frame ∧ ((s.lap).state).rx = s.rx ∧ ((s.lap).state).image = s.image ∧
    ((s.lap).state).lamp = s.lamp ∧ ((s.lap).state).cmd = s.cmd ∧ ((s.lap).state).free = s.free ∧
    ((s.lap).state).pending = s.pending ∧ ((s.lap).state).own = s.own ∧ ((s.lap).state).settings = s.settings := by
  unfold State.lap
  repeat' first | split | dsimp only
  all_goals simp

@[simp] theorem State.quit_keeps (s : State) :
    ((s.quit).state).tick = s.tick ∧ ((s.quit).state).straps = s.straps ∧ ((s.quit).state).loader = s.loader ∧
    ((s.quit).state).frame = s.frame ∧ ((s.quit).state).rx = s.rx ∧ ((s.quit).state).image = s.image ∧
    ((s.quit).state).cmd = s.cmd ∧ ((s.quit).state).free = s.free ∧ ((s.quit).state).pending = s.pending ∧
    ((s.quit).state).own = s.own ∧ ((s.quit).state).settings = s.settings := by
  unfold State.quit
  repeat' first | split | dsimp only
  all_goals simp

@[simp] theorem State.ackResults_keeps (s : State) :
    ((s.ackResults).state).tick = s.tick ∧ ((s.ackResults).state).straps = s.straps ∧
    ((s.ackResults).state).loader = s.loader ∧ ((s.ackResults).state).frame = s.frame ∧
    ((s.ackResults).state).rx = s.rx ∧ ((s.ackResults).state).image = s.image ∧
    ((s.ackResults).state).cmd = s.cmd ∧ ((s.ackResults).state).free = s.free ∧
    ((s.ackResults).state).pending = s.pending ∧ ((s.ackResults).state).own = s.own ∧
    ((s.ackResults).state).settings = s.settings := by
  unfold State.ackResults
  repeat' first | split | dsimp only
  all_goals simp

@[simp] theorem State.openImage_keeps (s : State) :
    ((s.openImage).state).tick = s.tick ∧ ((s.openImage).state).straps = s.straps ∧
    ((s.openImage).state).loader = s.loader ∧ ((s.openImage).state).frame = s.frame ∧
    ((s.openImage).state).rx = s.rx ∧ ((s.openImage).state).tx = s.tx ∧ ((s.openImage).state).peers = s.peers ∧
    ((s.openImage).state).race = s.race ∧ ((s.openImage).state).lamp = s.lamp ∧
    ((s.openImage).state).cmd = s.cmd ∧ ((s.openImage).state).events = s.events ∧
    ((s.openImage).state).free = s.free ∧ ((s.openImage).state).pending = s.pending ∧
    ((s.openImage).state).own = s.own ∧ ((s.openImage).state).settings = s.settings ∧
    ∀ p, ((s.openImage).state).entry p = s.entry p := by
  unfold State.openImage
  repeat' first | split | dsimp only
  all_goals simp

@[simp] theorem State.readResults_keeps (s : State) :
    ((s.readResults).state).tick = s.tick ∧ ((s.readResults).state).straps = s.straps ∧
    ((s.readResults).state).loader = s.loader ∧ ((s.readResults).state).frame = s.frame ∧
    ((s.readResults).state).rx = s.rx ∧ ((s.readResults).state).tx = s.tx ∧
    ((s.readResults).state).peers = s.peers ∧ ((s.readResults).state).race = s.race ∧
    ((s.readResults).state).image = s.image ∧ ((s.readResults).state).lamp = s.lamp ∧
    ((s.readResults).state).cmd = s.cmd ∧ ((s.readResults).state).events = s.events ∧
    ((s.readResults).state).free = s.free ∧ ((s.readResults).state).pending = s.pending ∧
    ((s.readResults).state).own = s.own ∧ ((s.readResults).state).settings = s.settings ∧
    ∀ p, ((s.readResults).state).entry p = s.entry p := by
  unfold State.readResults
  repeat' first | split | dsimp only
  all_goals simp

@[simp] theorem State.readPeer_keeps (s : State) :
    ((s.readPeer).state).tick = s.tick ∧ ((s.readPeer).state).straps = s.straps ∧
    ((s.readPeer).state).loader = s.loader ∧ ((s.readPeer).state).frame = s.frame ∧
    ((s.readPeer).state).rx = s.rx ∧ ((s.readPeer).state).tx = s.tx ∧ ((s.readPeer).state).peers = s.peers ∧
    ((s.readPeer).state).race = s.race ∧ ((s.readPeer).state).image = s.image ∧
    ((s.readPeer).state).lamp = s.lamp ∧ ((s.readPeer).state).cmd = s.cmd ∧
    ((s.readPeer).state).events = s.events ∧ ((s.readPeer).state).free = s.free ∧
    ((s.readPeer).state).pending = s.pending ∧ ((s.readPeer).state).own = s.own ∧
    ((s.readPeer).state).settings = s.settings ∧ ∀ p, ((s.readPeer).state).entry p = s.entry p := by
  unfold State.readPeer
  repeat' first | split | dsimp only
  all_goals simp

@[simp] theorem State.readHealth_keeps (s : State) :
    ((s.readHealth).state).tick = s.tick ∧ ((s.readHealth).state).straps = s.straps ∧
    ((s.readHealth).state).loader = s.loader ∧ ((s.readHealth).state).frame = s.frame ∧
    ((s.readHealth).state).peers = s.peers ∧ ((s.readHealth).state).race = s.race ∧
    ((s.readHealth).state).image = s.image ∧ ((s.readHealth).state).lamp = s.lamp ∧
    ((s.readHealth).state).cmd = s.cmd ∧ ((s.readHealth).state).events = s.events ∧
    ((s.readHealth).state).free = s.free ∧ ((s.readHealth).state).pending = s.pending ∧
    ((s.readHealth).state).own = s.own ∧ ((s.readHealth).state).settings = s.settings ∧
    ∀ p, ((s.readHealth).state).entry p = s.entry p := by
  unfold State.readHealth
  repeat' first | split | dsimp only
  all_goals simp

@[simp] theorem State.setOutput_keeps (s : State) :
    ((s.setOutput).state).tick = s.tick ∧ ((s.setOutput).state).straps = s.straps ∧
    ((s.setOutput).state).loader = s.loader ∧ ((s.setOutput).state).frame = s.frame ∧
    ((s.setOutput).state).rx = s.rx ∧ ((s.setOutput).state).tx = s.tx ∧ ((s.setOutput).state).peers = s.peers ∧
    ((s.setOutput).state).race = s.race ∧ ((s.setOutput).state).image = s.image ∧
    ((s.setOutput).state).cmd = s.cmd ∧ ((s.setOutput).state).events = s.events ∧
    ((s.setOutput).state).free = s.free ∧ ((s.setOutput).state).pending = s.pending ∧
    ((s.setOutput).state).own = s.own ∧ ((s.setOutput).state).settings = s.settings ∧
    ∀ p, ((s.setOutput).state).entry p = s.entry p := by
  unfold State.setOutput
  repeat' first | split | dsimp only
  all_goals simp

@[simp] theorem State.unknownCommand_keeps (s : State) :
    ((s.unknownCommand).state).tick = s.tick ∧ ((s.unknownCommand).state).straps = s.straps ∧
    ((s.unknownCommand).state).loader = s.loader ∧ ((s.unknownCommand).state).frame = s.frame ∧
    ((s.unknownCommand).state).rx = s.rx ∧ ((s.unknownCommand).state).tx = s.tx ∧
    ((s.unknownCommand).state).peers = s.peers ∧ ((s.unknownCommand).state).race = s.race ∧
    ((s.unknownCommand).state).image = s.image ∧ ((s.unknownCommand).state).lamp = s.lamp ∧
    ((s.unknownCommand).state).cmd = s.cmd ∧ ((s.unknownCommand).state).events = s.events ∧
    ((s.unknownCommand).state).free = s.free ∧ ((s.unknownCommand).state).pending = s.pending ∧
    ((s.unknownCommand).state).own = s.own ∧ ((s.unknownCommand).state).settings = s.settings ∧
    ∀ p, ((s.unknownCommand).state).entry p = s.entry p := by
  unfold State.unknownCommand
  simp

@[simp] theorem settle_keeps (b s : State) :
    (settle b s).tick = s.tick ∧ (settle b s).straps = s.straps ∧ (settle b s).loader = s.loader ∧
    (settle b s).frame = s.frame ∧ (settle b s).rx = s.rx ∧ (settle b s).peers = s.peers ∧
    (settle b s).image = s.image ∧ (settle b s).lamp = s.lamp ∧ (settle b s).cmd = s.cmd ∧
    (settle b s).free = s.free ∧ (settle b s).pending = s.pending ∧ (settle b s).own = s.own ∧
    (settle b s).settings = s.settings ∧ ∀ p, (settle b s).entry p = s.entry p := by
  unfold settle
  dsimp only
  split <;> simp

end Sys2Proof.Machine
end

