-- ==== Sys2Proof/Laws/Collections.lean ====
section
/-! SUPPORT. Reading the fixed-size collections and the Peer Table after an update. -/

namespace Sys2Proof

theorem Eight.get_ofFn {α : Type} (f : Station → α) (i : Station) : (Eight.ofFn f).get i = f i := by
  revert i
  intro i
  match i with
  | 0 | 1 | 2 | 3 | 4 | 5 | 6 | 7 => rfl

theorem Four.get_ofFn {α : Type} (f : Pin → α) (i : Pin) : (Four.ofFn f).get i = f i := by
  match i with
  | 0 | 1 | 2 | 3 => rfl

@[simp] theorem Eight.get_set {α : Type} (t : Eight α) (i j : Station) (x : α) :
    (t.set i x).get j = if j = i then x else t.get j := by
  unfold Eight.set
  rw [Eight.get_ofFn]

@[simp] theorem Four.get_set {α : Type} (t : Four α) (i j : Pin) (x : α) :
    (t.set i x).get j = if j = i then x else t.get j := by
  unfold Four.set
  rw [Four.get_ofFn]

@[simp] theorem Eight.get_replicate {α : Type} (x : α) (i : Station) : (Eight.replicate x).get i = x := by
  match i with
  | 0 | 1 | 2 | 3 | 4 | 5 | 6 | 7 => rfl

@[simp] theorem Four.get_replicate {α : Type} (x : α) (i : Pin) : (Four.replicate x).get i = x := by
  match i with
  | 0 | 1 | 2 | 3 => rfl

theorem Eight.ext_get {α : Type} {a b : Eight α} (h : ∀ i, a.get i = b.get i) : a = b := by
  have h0 : a.e0 = b.e0 := h 0
  have h1 : a.e1 = b.e1 := h 1
  have h2 : a.e2 = b.e2 := h 2
  have h3 : a.e3 = b.e3 := h 3
  have h4 : a.e4 = b.e4 := h 4
  have h5 : a.e5 = b.e5 := h 5
  have h6 : a.e6 = b.e6 := h 6
  have h7 : a.e7 = b.e7 := h 7
  clear h
  cases a
  cases b
  simp_all

theorem Four.ext_get {α : Type} {a b : Four α} (h : ∀ i, a.get i = b.get i) : a = b := by
  have h0 : a.e0 = b.e0 := h 0
  have h1 : a.e1 = b.e1 := h 1
  have h2 : a.e2 = b.e2 := h 2
  have h3 : a.e3 = b.e3 := h 3
  clear h
  cases a
  cases b
  simp_all

/-- Setting an entry to what it holds changes nothing. -/
theorem Eight.set_get {α : Type} (t : Eight α) (i : Station) : t.set i (t.get i) = t :=
  Eight.ext_get fun j => by
    rw [Eight.get_set]
    split
    · subst_vars; rfl
    · rfl

namespace Machine

@[simp] theorem State.entry_setEntry (s : State) (p q : Station) (e : Entry) :
    (s.setEntry p e).entry q = if q = p then e else s.entry q := by
  simp [State.setEntry, State.entry, State.setPeers]

@[simp] theorem State.entry_mapEntries (s : State) (f : Station → Entry → Entry) (p : Station) :
    (s.mapEntries f).entry p = f p (s.entry p) := by
  simp [State.mapEntries, State.entry, State.setPeers, Eight.get_ofFn]

/-- What the Peer Table holds beside its entries stays under an update of entries. -/
@[simp] theorem State.peers_setEntry (s : State) (p : Station) (e : Entry) :
    (s.setEntry p e).peers.silenceTimer = s.peers.silenceTimer ∧ (s.setEntry p e).peers.heard = s.peers.heard ∧
      (s.setEntry p e).peers.silent = s.peers.silent := ⟨rfl, rfl, rfl⟩

@[simp] theorem State.peers_mapEntries (s : State) (f : Station → Entry → Entry) :
    (s.mapEntries f).peers.silenceTimer = s.peers.silenceTimer ∧ (s.mapEntries f).peers.heard = s.peers.heard ∧
      (s.mapEntries f).peers.silent = s.peers.silent := ⟨rfl, rfl, rfl⟩

/-- The records after a post. -/
@[simp] theorem State.records_post (s : State) (k : EventKind) (p : Station) (d : Word) (a : Instant) :
    (s.post k p d a).events.records = postRecord s.settings.eventMask s.own ⟨k, p, d, a⟩ s.events.records := rfl

/-- A post keeps the interrupt enable. -/
@[simp] theorem State.enable_post (s : State) (k : EventKind) (p : Station) (d : Word) (a : Instant) :
    (s.post k p d a).events.enable = s.events.enable := rfl

/-- The own race state after a change of it. -/
@[simp] theorem State.race_setOwn (s : State) (o : OwnState) : (s.setOwn o).race = { s.race with own := o } := rfl

/-- The Transmitter after a change of own race state: the CALL cadence timer is stopped (R37). -/
@[simp] theorem State.tx_setOwn (s : State) (o : OwnState) : (s.setOwn o).tx = { s.tx with callTimer := none } := rfl

end Machine

end Sys2Proof
end

