-- ==== Sys2Proof/Laws/Settle.lean ====
section
/-! SUPPORT. What follows an event at the Transmitter (settle): when it does nothing, and what it can do. -/

namespace Sys2Proof.Machine

/-- A current frame that stands is not lost. -/
theorem State.loseCurrent_of_stands {s : State} (h : s.currentStands = true) : s.loseCurrent = s := by
  unfold State.currentStands at h
  unfold State.loseCurrent
  split
  · rfl
  · rename_i c hc
    rw [hc] at h
    simp only [Bool.or_eq_true, decide_eq_true_eq] at h
    rw [if_neg]
    rintro ⟨h1, h2⟩
    rcases h with h | h
    · exact h1 h
    · rw [h] at h2; exact absurd h2 (by decide)

/-- Whether work is pending depends on the Transmitter and the own race state alone. -/
theorem State.workPending_congr {s t : State} (h1 : t.tx = s.tx) (h2 : t.race.own = s.race.own) :
    t.workPending = s.workPending := by
  obtain ⟨_, _, _, _, _, tx, _, race, _, _, _, _, _, _⟩ := s
  obtain ⟨_, _, _, _, _, tx', _, race', _, _, _, _, _, _⟩ := t
  cases race
  cases race'
  cases h1
  cases h2
  rfl

/-- Whether the current frame stands depends on the Transmitter and the own race state alone. -/
theorem State.currentStands_congr {s t : State} (h1 : t.tx = s.tx) (h2 : t.race.own = s.race.own) :
    t.currentStands = s.currentStands := by
  simp only [State.currentStands, State.sourceExists, h1, h2]

/-- An event that leaves the Transmitter and the own race state alone is followed by nothing. -/
theorem settle_same {s t : State} (hc : s.currentStands = true) (h1 : t.tx = s.tx) (h2 : t.race.own = s.race.own) :
    settle s t = t := by
  have hs : t.loseCurrent = t := State.loseCurrent_of_stands (by rw [State.currentStands_congr h1 h2, hc])
  have hw := State.workPending_congr h1 h2
  unfold settle
  simp only [hs, hw]
  rw [if_neg]
  rintro ⟨h, h', _⟩
  rw [h] at h'
  exact absurd h' (by decide)

/-- The meaning of such an event. -/
theorem done_same {s t : State} (hc : s.currentStands = true) (h1 : t.tx = s.tx) (h2 : t.race.own = s.race.own) :
    done s t = .next t := by
  unfold done
  rw [settle_same hc h1 h2]

/-- An event that makes no work pending and after which the current frame stands is followed by nothing. -/
theorem settle_id {s t : State} (hc : t.currentStands = true) (hw : t.workPending = s.workPending) :
    settle s t = t := by
  have hs : t.loseCurrent = t := State.loseCurrent_of_stands hc
  unfold settle
  simp only [hs, hw]
  rw [if_neg]
  rintro ⟨h, h', _⟩
  rw [h] at h'
  exact absurd h' (by decide)

/-- While the line is not open, an event is followed at most by the loss of the current frame. -/
theorem settle_closed {s t : State} (h : t.tx.opportunity = none) : settle s t = t.loseCurrent := by
  unfold settle
  simp only
  rw [if_neg]
  rintro ⟨_, _, h', _⟩
  have : t.loseCurrent.tx.opportunity = none := by
    unfold State.loseCurrent
    split
    · exact h
    · split <;> simp [Transmitter.dropCurrent, h]
  simp [State.lineOpen, this] at h'

/-- The current frame stands after the loss of one that does not. -/
theorem State.loseCurrent_stands (s : State) : s.loseCurrent.currentStands = true := by
  unfold State.loseCurrent
  split
  · rename_i h; simp [State.currentStands, h]
  · rename_i c h
    split
    · simp [State.currentStands, Transmitter.dropCurrent]
    · rename_i h'
      simp only [ne_eq, not_and, Bool.not_eq_false] at h'
      simp only [State.currentStands, h, Bool.or_eq_true, decide_eq_true_eq]
      by_cases hp : s.tx.phase = .sending
      · exact Or.inl hp
      · exact Or.inr (h' hp)

/-- The current frame stands after a start opportunity. -/
theorem State.arbitrate_stands {s : State} (h : s.currentStands = true) : s.arbitrate.currentStands = true := by
  unfold State.arbitrate
  split
  · exact h
  · split
    · dsimp only
      split
      · simp [State.currentStands, State.withdrawStart]
      · simp [State.currentStands, State.depart]
    · simp [State.currentStands, State.depart]

/-- The current frame stands after every event. -/
theorem settle_stands (s t : State) : (settle s t).currentStands = true := by
  unfold settle
  dsimp only
  split
  · exact State.arbitrate_stands t.loseCurrent_stands
  · exact t.loseCurrent_stands

/-- With no work pending before, an event that makes a candidate eligible while the line is open is followed by that
frame's departure (R34, R40). -/
theorem settle_departs {s t : State} {x : Source} (hw : s.workPending = false) (hc : t.tx.current = none)
    (hx : t.candidate = some x) (hs : x = .start → t.fieldShort = false) (hl : t.lineOpen = true)
    (hp : t.tx.phase = .ready) : settle s t = t.depart ⟨x, 0, 0⟩ := by
  have hk : t.loseCurrent = t := by
    unfold State.loseCurrent
    rw [hc]
  have hn : t.nextFrame = some ⟨x, 0, 0⟩ := by
    unfold State.nextFrame
    rw [hc, hx]
    rfl
  unfold settle
  simp only [hk]
  rw [if_pos ⟨hw, by rw [State.workPending, hn]; rfl, hl, hp⟩]
  unfold State.arbitrate
  rw [hn]
  refine if_neg ?_
  rintro ⟨h1, h2⟩
  rw [hs h1] at h2
  cases h2

/-- What the loss of the current frame can change in the Transmitter. -/
@[simp] theorem State.tx_loseCurrent (s : State) :
    s.loseCurrent.tx.queue = s.tx.queue ∧ s.loseCurrent.tx.slot = s.tx.slot ∧
      s.loseCurrent.tx.callTimer = s.tx.callTimer ∧ s.loseCurrent.tx.spacingTimer = s.tx.spacingTimer ∧
      s.loseCurrent.tx.resendTimer = s.tx.resendTimer ∧ s.loseCurrent.tx.lastSender = s.tx.lastSender ∧
      s.loseCurrent.tx.opportunity = s.tx.opportunity ∧ s.loseCurrent.tx.inFlight = s.tx.inFlight ∧
      s.loseCurrent.tx.sequence = s.tx.sequence ∧ s.loseCurrent.tx.stuckWatch = s.tx.stuckWatch ∧
      s.loseCurrent.tx.stuckSince = s.tx.stuckSince ∧ s.loseCurrent.tx.stuckCount = s.tx.stuckCount ∧
      s.loseCurrent.tx.crossing = s.tx.crossing ∧ s.loseCurrent.tx.framesSent = s.tx.framesSent ∧
      s.loseCurrent.tx.collisions = s.tx.collisions ∧ s.loseCurrent.tx.drops = s.tx.drops ∧
      s.loseCurrent.tx.backoffSeed = s.tx.backoffSeed ∧ s.loseCurrent.tx.backoffPlace = s.tx.backoffPlace := by
  unfold State.loseCurrent
  split
  · simp
  · split <;> simp [Transmitter.dropCurrent]

/-- What the removal of the own START can change in the Transmitter. -/
@[simp] theorem Transmitter.removeStart_keeps (t : Transmitter) :
    t.removeStart.slot = t.slot ∧ t.removeStart.callTimer = t.callTimer ∧
      t.removeStart.spacingTimer = t.spacingTimer ∧ t.removeStart.resendTimer = t.resendTimer ∧
      t.removeStart.lastSender = t.lastSender ∧ t.removeStart.opportunity = t.opportunity ∧
      t.removeStart.inFlight = t.inFlight ∧ t.removeStart.sequence = t.sequence ∧
      t.removeStart.stuckWatch = t.stuckWatch ∧ t.removeStart.stuckSince = t.stuckSince ∧
      t.removeStart.stuckCount = t.stuckCount ∧ t.removeStart.crossing = t.crossing ∧
      t.removeStart.framesSent = t.framesSent ∧ t.removeStart.collisions = t.collisions ∧
      t.removeStart.drops = t.drops ∧ t.removeStart.backoffSeed = t.backoffSeed ∧
      t.removeStart.backoffPlace = t.backoffPlace ∧ t.removeStart.queue = withoutStart t.queue := by
  unfold Transmitter.removeStart
  dsimp only
  split <;> simp [Transmitter.dropCurrent]

/-- What a start opportunity leaves as it was in the Transmitter. -/
@[simp] theorem State.tx_arbitrate (s : State) :
    s.arbitrate.tx.slot.state = s.tx.slot.state ∧ s.arbitrate.tx.slot.finishMark = s.tx.slot.finishMark ∧
      s.arbitrate.tx.callTimer = s.tx.callTimer ∧ s.arbitrate.tx.spacingTimer = s.tx.spacingTimer ∧
      s.arbitrate.tx.resendTimer = s.tx.resendTimer ∧ s.arbitrate.tx.lastSender = s.tx.lastSender ∧
      s.arbitrate.tx.sequence = s.tx.sequence ∧ s.arbitrate.tx.stuckWatch = s.tx.stuckWatch ∧
      s.arbitrate.tx.stuckSince = s.tx.stuckSince ∧ s.arbitrate.tx.stuckCount = s.tx.stuckCount ∧
      s.arbitrate.tx.crossing = s.tx.crossing ∧ s.arbitrate.tx.framesSent = s.tx.framesSent ∧
      s.arbitrate.tx.collisions = s.tx.collisions ∧ s.arbitrate.tx.drops = s.tx.drops ∧
      s.arbitrate.tx.backoffSeed = s.tx.backoffSeed ∧ s.arbitrate.tx.backoffPlace = s.tx.backoffPlace := by
  unfold State.arbitrate
  split
  · simp
  · split
    · dsimp only
      split <;> simp [State.depart, State.withdrawStart]
    · simp [State.depart]

/-- What settling leaves as it was in the Transmitter. -/
@[simp] theorem tx_settle (s t : State) :
    (settle s t).tx.slot.state = t.tx.slot.state ∧ (settle s t).tx.slot.finishMark = t.tx.slot.finishMark ∧
      (settle s t).tx.callTimer = t.tx.callTimer ∧ (settle s t).tx.spacingTimer = t.tx.spacingTimer ∧
      (settle s t).tx.resendTimer = t.tx.resendTimer ∧ (settle s t).tx.lastSender = t.tx.lastSender ∧
      (settle s t).tx.sequence = t.tx.sequence ∧ (settle s t).tx.stuckWatch = t.tx.stuckWatch ∧
      (settle s t).tx.stuckSince = t.tx.stuckSince ∧ (settle s t).tx.stuckCount = t.tx.stuckCount ∧
      (settle s t).tx.crossing = t.tx.crossing ∧ (settle s t).tx.framesSent = t.tx.framesSent ∧
      (settle s t).tx.collisions = t.tx.collisions ∧ (settle s t).tx.drops = t.tx.drops ∧
      (settle s t).tx.backoffSeed = t.tx.backoffSeed ∧ (settle s t).tx.backoffPlace = t.tx.backoffPlace := by
  unfold settle
  dsimp only
  split <;> simp

/-- What a start opportunity can change in the Race Sequencer: the own proposal and the lobby timer. -/
theorem State.race_arbitrate (s : State) :
    s.arbitrate.race = { s.race with proposal := s.arbitrate.race.proposal, lobbyTimer := s.arbitrate.race.lobbyTimer } := by
  unfold State.arbitrate
  split
  · rfl
  · split
    · dsimp only
      split <;> simp [State.depart, State.withdrawStart]
    · simp [State.depart]

/-- What settling can change in the Race Sequencer: the own proposal and the lobby timer. -/
@[simp] theorem race_settle (s t : State) :
    (settle s t).race.own = t.race.own ∧ (settle s t).race.entry = t.race.entry ∧
      (settle s t).race.record = t.race.record ∧ (settle s t).race.lockTimer = t.race.lockTimer ∧
      (settle s t).race.greenTimer = t.race.greenTimer ∧ (settle s t).race.lapCount = t.race.lapCount ∧
      (settle s t).race.lapList = t.race.lapList ∧ (settle s t).race.earliest = t.race.earliest ∧
      (settle s t).race.graceTimer = t.race.graceTimer ∧ (settle s t).race.limitTimer = t.race.limitTimer ∧
      (settle s t).race.ceilingTimer = t.race.ceilingTimer ∧ (settle s t).race.ceilingMark = t.race.ceilingMark ∧
      (settle s t).race.results = t.race.results := by
  unfold settle
  dsimp only
  split
  · rw [State.race_arbitrate]
    simp
  · simp

/-- No work is pending only with an empty control queue. -/
theorem State.queue_of_idle {s : State} (h : s.workPending = false) : s.tx.queue = [] := by
  unfold State.workPending State.nextFrame State.candidate at h
  cases hc : s.tx.current with
  | some c => simp [hc] at h
  | none =>
    cases hq : s.tx.queue with
    | nil => rfl
    | cons a l => simp [hc, hq] at h

/-- At a start opportunity with no START in the queue, the frame that goes is no START. -/
theorem State.nextFrame_of_no_start {s : State} (h : s.currentStands = true) (hp : s.tx.phase ≠ .sending)
    (hq : ControlFrame.start ∉ s.tx.queue) {c : Current} (hn : s.nextFrame = some c) : c.source ≠ .start := by
  unfold State.nextFrame at hn
  split at hn
  · rename_i d hd
    cases hn
    intro hs
    simp [State.currentStands, hd, hs, State.sourceExists, hp] at h
    exact hq h
  · unfold State.candidate at hn
    split at hn
    · rename_i d l hd
      simp only [Option.map_some, Option.some.injEq] at hn
      subst hn
      intro hs
      cases d with
      | start => exact hq (by rw [hd]; exact List.mem_cons_self ..)
      | withdraw r => cases hs
    · intro hs
      repeat' split at hn
      all_goals simp at hn
      all_goals (subst hn; simp at hs)

/-- An event that queues no new START is followed by no withdrawal: settling keeps the Race Sequencer, the Event Queue
and the control queue. -/
theorem settle_no_new_start {s t : State} (h : ControlFrame.start ∈ t.tx.queue → ControlFrame.start ∈ s.tx.queue) :
    (settle s t).race = t.race ∧ (settle s t).events = t.events ∧ (settle s t).tx.queue = t.tx.queue := by
  unfold settle
  dsimp only
  split
  · rename_i hw
    obtain ⟨hb, _, _, hp⟩ := hw
    have hq : ControlFrame.start ∉ t.loseCurrent.tx.queue := by
      rw [(State.tx_loseCurrent t).1]
      intro hm
      have hm' := h hm
      simp [State.queue_of_idle hb] at hm'
    unfold State.arbitrate
    split
    · simp
    · rename_i c hc
      have hc' := State.nextFrame_of_no_start t.loseCurrent_stands (by rw [hp]; decide) hq hc
      rw [if_neg (fun hx => hc' hx.1)]
      simp [State.depart]
  · simp

end Sys2Proof.Machine
end

