-- ==== Sys2Proof/Laws/Commands.lean ====
section
/-! SUPPORT. The take of a command, and what holds of every command a code can name. -/

namespace Sys2Proof.Machine

/-- A code taken in IDLE: the command's work is done, and the unit is BUSY with its answer (R166). -/
theorem State.take_idle {s : State} (h : s.cmd.unit = .idle) (work : State → Answer) :
    s.take work =
      (work (s.setCmd s.cmd.beginTake)).state.setCmd
        { (work (s.setCmd s.cmd.beginTake)).state.cmd with
          unit := .busy (work (s.setCmd s.cmd.beginTake)).result (work (s.setCmd s.cmd.beginTake)).reply s.tick } := by
  unfold State.take
  rw [h]

/-- A code written outside IDLE is lost (R167). -/
theorem State.take_lost {s : State} (h : s.cmd.unit ≠ .idle) (work : State → Answer) :
    s.take work = s.setCmd { s.cmd with lost := true } := by
  unfold State.take
  split
  · rename_i h'; exact absurd h' h
  · rfl
  · rfl

/-- What holds of the work of each command and of an unknown code holds of the work of every code. -/
theorem command_induction {P : (State → Answer) → Prop} (code : Word) (h1 : P State.configure)
    (h2 : P State.readConfig) (h3 : P State.goOnline) (h4 : P State.goOffline) (h5 : P State.restart)
    (h6 : P State.enter) (h7 : P State.cancelEntry) (h8 : P State.takePostCar) (h9 : P State.lap)
    (h10 : P State.quit) (h11 : P State.openImage) (h12 : P State.readResults) (h13 : P State.ackResults)
    (h14 : P State.readPeer) (h15 : P State.readHealth) (h16 : P State.setOutput)
    (h0 : P State.unknownCommand) : P ((commandOf code).getD State.unknownCommand) := by
  unfold commandOf
  split <;> assumption

/-- A property that a lost code keeps and every command's work brings about holds after a write of any code. -/
theorem State.take_property {Q : State → Prop} {s : State} {work : State → Answer}
    (hc : ∀ (u : State) (x : CommandUnit), Q u → Q (u.setCmd x)) (hs : Q s)
    (hw : Q (s.setCmd s.cmd.beginTake) → Q (work (s.setCmd s.cmd.beginTake)).state) : Q (s.take work) := by
  unfold State.take
  split
  · exact hc _ _ (hw (hc _ _ hs))
  · exact hc _ _ hs
  · exact hc _ _ hs

/-- The queue of commands stands under a take. -/
theorem State.pending_take {s : State} {work : State → Answer} (h : ∀ u, (work u).state.pending = u.pending) :
    (s.take work).pending = s.pending := by
  unfold State.take
  split <;> simp [h]

/-- The queue of commands stands under a write of any code. -/
@[simp] theorem State.pending_commandWrite (s : State) (code : Word) : (s.commandWrite code).pending = s.pending := by
  unfold State.commandWrite
  apply State.pending_take
  apply command_induction (P := fun w => ∀ u, (w u).state.pending = u.pending) <;> (intro u; simp)

/-- The queue of commands stands under a write at any address. -/
@[simp] theorem State.pending_portWrite (s : State) (a : BitVec 9) (v : Word) :
    (s.portWrite a v).pending = s.pending := by
  unfold State.portWrite
  dsimp only
  repeat' split
  all_goals simp

end Sys2Proof.Machine
end

