-- ==== Sys2Proof/Laws/Events.lean ====
section
/-! SUPPORT. The Event Queue stays bounded under a post, and so under every operation. -/

namespace Sys2Proof.Machine

/-- Counting one more dropped event keeps the kinds. -/
theorem countDropped_kind (r : EventRecord) : r.countDropped.kind = r.kind := by
  unfold EventRecord.countDropped
  split <;> rfl

/-- Counting keeps whether an OVERFLOW record is held. -/
theorem overflowHeld_map (q : List EventRecord) : overflowHeld (q.map EventRecord.countDropped) = overflowHeld q := by
  unfold overflowHeld
  rw [List.any_map]
  congr 1
  funext r
  simp [countDropped_kind]

/-- A post keeps the queue bounded (R181). -/
theorem postRecord_bounded (mask : BitVec 24) (own : Station) (r : EventRecord) (q : EventQueue)
    (h : q.bounded) :
    ({ q with records := postRecord mask own r q.records } : EventQueue).bounded := by
  obtain ⟨h1, h2, h3⟩ := h
  unfold EventQueue.bounded postRecord
  dsimp only
  split
  · exact ⟨h1, h2, h3⟩
  · split
    · rename_i ho
      refine ⟨by simpa using h1, ?_, ?_⟩
      · rw [← List.map_dropLast, overflowHeld_map]; exact h2
      · intro hf; rw [overflowHeld_map, ho] at hf; exact absurd hf (by decide)
    · rename_i ho
      have ho' : overflowHeld q.records = false := by simpa using ho
      split
      · rename_i hl
        refine ⟨by simp; omega, by rw [List.dropLast_concat]; exact ho', fun _ => by simp; omega⟩
      · refine ⟨by have := h3 ho'; simp; omega, by rw [List.dropLast_concat]; exact ho', ?_⟩
        intro hf
        simp [overflowHeld] at hf

/-- A release keeps the queue bounded (R182). -/
theorem tail_bounded (q : EventQueue) (h : q.bounded) :
    ({ q with records := q.records.tail } : EventQueue).bounded := by
  obtain ⟨h1, h2, h3⟩ := h
  unfold EventQueue.bounded
  dsimp only
  refine ⟨by rw [List.length_tail]; omega, ?_, ?_⟩
  · cases hq : q.records with
    | nil => rfl
    | cons a l =>
      rw [hq] at h2
      cases l with
      | nil => rfl
      | cons b l =>
        rw [List.dropLast_cons_cons] at h2
        simp only [overflowHeld, List.any_cons, Bool.or_eq_false_iff] at h2
        exact h2.2
  · intro hf
    cases hq : q.records with
    | nil => simp
    | cons a l =>
      rw [hq] at hf h3 h1 h2
      simp only [List.tail_cons, List.length_cons] at *
      cases l with
      | nil => simp
      | cons b l => simp only [List.length_cons] at *; omega

/-- A post, as a block makes it, keeps the queue bounded. -/
theorem State.post_bounded {s : State} {k : EventKind} {p : Station} {d : Word} {a : Instant}
    (h : s.events.bounded) : (s.post k p d a).events.bounded :=
  postRecord_bounded _ _ _ _ h

theorem State.dropFrame_bounded {s : State} (k : Nat) (h : s.events.bounded) :
    (s.dropFrame k).events.bounded := by
  unfold State.dropFrame
  repeat' first | with_reducible assumption | split | dsimp only | simp only [State.events_setTx] | with_reducible
      apply State.post_bounded

theorem State.overflowControl_bounded {s : State} (c : ControlFrame) (l : List ControlFrame) (h : s.events.bounded) :
    (s.overflowControl c l).events.bounded := by
  unfold State.overflowControl
  repeat' first | with_reducible assumption | split | dsimp only | simp only [State.events_setTx,
      State.events_setRace] | with_reducible apply State.dropFrame_bounded

theorem State.makeRoom_bounded {s : State} (h : s.events.bounded) :
    (s.makeRoom).events.bounded := by
  unfold State.makeRoom
  repeat' first | with_reducible assumption | split | dsimp only | with_reducible apply State.overflowControl_bounded

theorem State.placeControl_bounded {s : State} (c : ControlFrame) (h : s.events.bounded) :
    (s.placeControl c).events.bounded := by
  unfold State.placeControl
  repeat' first | with_reducible assumption | split | dsimp only | simp only [State.events_setTx] | with_reducible
      apply State.makeRoom_bounded

theorem State.withdrawStart_bounded {s : State} (h : s.events.bounded) :
    (s.withdrawStart).events.bounded := by
  unfold State.withdrawStart
  repeat' first | with_reducible assumption | split | dsimp only | simp only [State.events_setTx,
      State.events_setRace] | with_reducible apply State.post_bounded

theorem State.arbitrate_bounded {s : State} (h : s.events.bounded) :
    (s.arbitrate).events.bounded := by
  unfold State.arbitrate
  repeat' first | with_reducible assumption | split | dsimp only | simp only [State.depart_keeps] | with_reducible
      apply State.withdrawStart_bounded

theorem State.postGone_bounded {s : State} (f : Station → Bool) (a : Instant) (b : State) (h : s.events.bounded) :
    (s.postGone f a b).events.bounded := by
  unfold State.postGone
  generalize stations = l
  induction l generalizing s with
  | nil => exact h
  | cons p rest ih =>
    simp only [List.foldl_cons]
    split
    · exact ih (State.post_bounded h)
    · exact ih h

theorem State.unseatWhere_bounded {s : State} (f : Station → Bool) (a : Instant) (h : s.events.bounded) :
    (s.unseatWhere f a).events.bounded := by
  unfold State.unseatWhere
  repeat' first | with_reducible assumption | split | dsimp only | simp only [State.mapEntries_keeps] | with_reducible
      apply State.postGone_bounded

theorem State.joinSender_bounded {s : State} (f : BusFrame) (a : Instant) (h : s.events.bounded) :
    (s.joinSender f a).events.bounded := by
  unfold State.joinSender
  repeat' first | with_reducible assumption | split | dsimp only | simp only [State.setEntry_keeps] | with_reducible
      apply State.post_bounded

theorem State.hearLink_bounded {s : State} (f : BusFrame) (a : Instant) (h : s.events.bounded) :
    (s.hearLink f a).events.bounded := by
  unfold State.hearLink
  repeat' first | with_reducible assumption | split | dsimp only | simp only [State.events_setPeers] | with_reducible
      apply State.post_bounded

theorem State.retire_bounded {s : State} (p : Station) (d : Word) (a : Instant) (h : s.events.bounded) :
    (s.retire p d a).events.bounded := by
  unfold State.retire
  repeat' first | with_reducible assumption | split | dsimp only | simp only [State.setEntry_keeps] | with_reducible
      apply State.post_bounded

theorem State.hearCall_bounded {s : State} (p : Station) (b : Bool) (r : LobbyInfo) (a : Instant) (h :
    s.events.bounded) :
    (s.hearCall p b r a).events.bounded := by
  unfold State.hearCall
  repeat' first | with_reducible assumption | split | dsimp only | simp only [State.setEntry_keeps] | with_reducible
      apply State.post_bounded | with_reducible apply State.retire_bounded

theorem State.hearCar_bounded {s : State} (p : Station) (c : CarReport) (a : Instant) (h : s.events.bounded) :
    (s.hearCar p c a).events.bounded := by
  unfold State.hearCar
  repeat' first | with_reducible assumption | split | dsimp only | simp only [State.setEntry_keeps,
      State.toElsewhere_keeps] | with_reducible apply State.post_bounded

theorem State.leaveRace_bounded {s : State} (a : Instant) (h : s.events.bounded) :
    (s.leaveRace a).events.bounded := by
  unfold State.leaveRace
  repeat' first | with_reducible assumption | split | dsimp only | simp only [State.events_setTx,
      State.events_setRace, State.events_setLamp, State.dropOwnCar_keeps] | with_reducible apply
      State.unseatWhere_bounded

theorem State.adopt_bounded {s : State} (p : Station) (q : StartProposal) (a : Instant) (h : s.events.bounded) :
    (s.adopt p q a).events.bounded := by
  unfold State.adopt
  repeat' first | with_reducible assumption | split | dsimp only | simp only [State.events_setRace,
      State.setOwn_keeps, State.removeProposal_keeps, State.seatMask_keeps, State.beginRecord_keeps] | with_reducible
      apply State.post_bounded

theorem State.missStart_bounded {s : State} (p : Station) (q : StartProposal) (a : Instant) (h : s.events.bounded) :
    (s.missStart p q a).events.bounded := by
  unfold State.missStart
  repeat' first | with_reducible assumption | split | dsimp only | simp only [State.markElsewhere_keeps] |
      with_reducible apply State.post_bounded

theorem State.testAdoption_bounded {s : State} (p : Station) (q : StartProposal) (a : Instant) (h : s.events.bounded)
    :
    (s.testAdoption p q a).events.bounded := by
  unfold State.testAdoption
  repeat' first | with_reducible assumption | split | dsimp only | with_reducible apply State.post_bounded |
      with_reducible apply State.adopt_bounded | with_reducible apply State.missStart_bounded

theorem State.replaceWith_bounded {s : State} (p : Station) (q : StartProposal) (a : Instant) (h : s.events.bounded) :
    (s.replaceWith p q a).events.bounded := by
  unfold State.replaceWith
  repeat' first | with_reducible assumption | split | dsimp only | simp only [State.seatMask_keeps,
      State.beginRecord_keeps] | with_reducible apply State.post_bounded | with_reducible apply
      State.unseatWhere_bounded

theorem State.replaceWithout_bounded {s : State} (p : Station) (q : StartProposal) (a : Instant) (h :
    s.events.bounded) :
    (s.replaceWithout p q a).events.bounded := by
  unfold State.replaceWithout
  repeat' first | with_reducible assumption | split | dsimp only | simp only [State.events_setRace,
      State.setOwn_keeps, State.markElsewhere_keeps] | with_reducible apply State.post_bounded | with_reducible apply
      State.leaveRace_bounded

theorem State.testReplacement_bounded {s : State} (r : RaceRecord) (p : Station) (q : StartProposal) (a : Instant) (h
    : s.events.bounded) :
    (s.testReplacement r p q a).events.bounded := by
  unfold State.testReplacement
  repeat' first | with_reducible assumption | split | dsimp only | with_reducible apply State.post_bounded |
      with_reducible apply State.replaceWith_bounded | with_reducible apply State.replaceWithout_bounded

theorem State.decideStart_bounded {s : State} (p : Station) (q : StartProposal) (a : Instant) (h : s.events.bounded) :
    (s.decideStart p q a).events.bounded := by
  unfold State.decideStart
  repeat' first | with_reducible assumption | split | dsimp only | with_reducible apply State.post_bounded |
      with_reducible apply State.testAdoption_bounded | with_reducible apply State.testReplacement_bounded

theorem State.hearStart_bounded {s : State} (p : Station) (q : StartProposal) (a : Instant) (h : s.events.bounded) :
    (s.hearStart p q a).events.bounded := by
  unfold State.hearStart
  repeat' first | with_reducible assumption | split | dsimp only | simp only [State.toElsewhere_keeps] |
      with_reducible apply State.decideStart_bounded

theorem State.close_bounded {s : State} (l : Option (BitVec 32)) (x : Bool) (h : s.events.bounded) :
    (s.close l x).events.bounded := by
  unfold State.close
  repeat' first | with_reducible assumption | split | dsimp only | simp only [State.events_setRace,
      State.setOwn_keeps] | with_reducible apply State.post_bounded

theorem State.closeIfGraceReached_bounded {s : State} (r : Bool) (h : s.events.bounded) :
    (s.closeIfGraceReached r).events.bounded := by
  unfold State.closeIfGraceReached
  repeat' first | with_reducible assumption | split | dsimp only | with_reducible apply State.close_bounded

theorem State.closeIfAllDone_bounded {s : State} (h : s.events.bounded) :
    (s.closeIfAllDone).events.bounded := by
  unfold State.closeIfAllDone
  repeat' first | with_reducible assumption | split | dsimp only | with_reducible apply State.close_bounded

theorem State.hearFinish_bounded {s : State} (p : Station) (c : CarReport) (a : Instant) (h : s.events.bounded) :
    (s.hearFinish p c a).events.bounded := by
  unfold State.hearFinish
  repeat' first | with_reducible assumption | split | dsimp only | simp only [State.writeFinish_keeps] |
      with_reducible apply State.closeIfGraceReached_bounded

theorem State.candidatePulse_bounded {s : State} (c : Instant) (h : s.events.bounded) :
    (s.candidatePulse c).events.bounded := by
  unfold State.candidatePulse
  repeat' first | with_reducible assumption | split | dsimp only | simp only [State.events_setFrame,
      State.dropStaleHeld_keeps, State.requestBuild_keeps] | with_reducible apply State.post_bounded

theorem State.clearStuck_bounded {s : State} (h : s.events.bounded) :
    (s.clearStuck).events.bounded := by
  unfold State.clearStuck
  repeat' first | with_reducible assumption | split | dsimp only | simp only [State.events_setTx] | with_reducible
      apply State.post_bounded

theorem State.duplicate_bounded {s : State} (f : BusFrame) (a : Instant) (h : s.events.bounded) :
    (s.duplicate f a).events.bounded := by
  unfold State.duplicate
  repeat' first | with_reducible assumption | split | dsimp only | simp only [State.events_setTx,
      State.toOffline_keeps] | with_reducible apply State.post_bounded

theorem State.hearPayload_bounded {s : State} (p : Station) (x : Payload) (a : Instant) (h : s.events.bounded) :
    (s.hearPayload p x a).events.bounded := by
  unfold State.hearPayload
  repeat' first | with_reducible assumption | split | dsimp only | with_reducible apply State.retire_bounded |
      with_reducible apply State.hearCall_bounded | with_reducible apply State.hearCar_bounded | with_reducible apply
      State.hearStart_bounded

theorem State.hearReport_bounded {s : State} (p : Station) (x : Payload) (a : Instant) (h : s.events.bounded) :
    (s.hearReport p x a).events.bounded := by
  unfold State.hearReport
  repeat' first | with_reducible assumption | split | dsimp only | with_reducible apply State.hearFinish_bounded

theorem State.handOn_bounded {s : State} (f : BusFrame) (a : Instant) (h : s.events.bounded) :
    (s.handOn f a).events.bounded := by
  unfold State.handOn
  repeat' first | with_reducible assumption | split | dsimp only | simp only [State.receiveFields_keeps,
      State.restartPresence_keeps] | with_reducible apply State.joinSender_bounded | with_reducible apply
      State.hearLink_bounded | with_reducible apply State.closeIfAllDone_bounded | with_reducible apply
      State.hearPayload_bounded | with_reducible apply State.hearReport_bounded

theorem State.hear_bounded {s : State} (f : BusFrame) (a : Instant) (h : s.events.bounded) :
    (s.hear f a).events.bounded := by
  unfold State.hear
  repeat' first | with_reducible assumption | split | dsimp only | simp only [State.events_setRx,
      State.events_setTx] | with_reducible apply State.duplicate_bounded | with_reducible apply State.handOn_bounded

theorem State.hearOwn_bounded {s : State} (f : BusFrame) (a : Instant) (h : s.events.bounded) :
    (s.hearOwn f a).events.bounded := by
  unfold State.hearOwn
  repeat' first | with_reducible assumption | split | dsimp only | simp only [State.receiveFields_keeps] |
      with_reducible apply State.hearStart_bounded

theorem State.readBack_bounded {s : State} (f : InFlight) (h : s.events.bounded) :
    (s.readBack f).events.bounded := by
  unfold State.readBack
  repeat' first | with_reducible assumption | split | dsimp only | simp only [State.events_setRx, State.events_setTx,
      State.settleSource_keeps] | with_reducible apply State.hearOwn_bounded

theorem State.giveUp_bounded {s : State} (x : Source) (h : s.events.bounded) :
    (s.giveUp x).events.bounded := by
  unfold State.giveUp
  repeat' first | with_reducible assumption | split | dsimp only | simp only [State.events_setTx,
      State.giveUpSource_keeps] | with_reducible apply State.dropFrame_bounded

theorem State.collide_bounded {s : State} (h : s.events.bounded) :
    (s.collide).events.bounded := by
  unfold State.collide
  repeat' first | with_reducible assumption | split | dsimp only | simp only [State.events_setRx,
      State.events_setTx] | with_reducible apply State.giveUp_bounded

theorem State.lobbyExpiry_bounded {s : State} (i : Instant) (h : s.events.bounded) :
    (s.lobbyExpiry i).events.bounded := by
  unfold State.lobbyExpiry
  repeat' first | with_reducible assumption | split | dsimp only | simp only [State.events_setRace] | with_reducible
      apply State.post_bounded | with_reducible apply State.placeControl_bounded

theorem State.goGreen_bounded {s : State} (r : RaceRecord) (h : s.events.bounded) :
    (s.goGreen r).events.bounded := by
  unfold State.goGreen
  repeat' first | with_reducible assumption | split | dsimp only | simp only [State.events_setRace,
      State.mapEntries_keeps, State.setOwn_keeps] | with_reducible apply State.post_bounded

theorem State.putLoaded_bounded {s : State} (h : s.events.bounded) :
    (s.putLoaded).events.bounded := by
  unfold State.putLoaded
  repeat' first | with_reducible assumption | split | dsimp only | simp only [State.events_setLoader] | with_reducible
      apply State.post_bounded

theorem State.ownFinishes_bounded {s : State} (x : BitVec 32) (a : Instant) (h : s.events.bounded) :
    (s.ownFinishes x a).events.bounded := by
  unfold State.ownFinishes
  repeat' first | with_reducible assumption | split | dsimp only | simp only [State.events_setTx, State.setOwn_keeps,
      State.writeFinish_keeps] | with_reducible apply State.post_bounded | with_reducible apply
      State.closeIfGraceReached_bounded | with_reducible apply State.closeIfAllDone_bounded

theorem State.acceptLap_bounded {s : State} (x : BitVec 32) (a : Instant) (h : s.events.bounded) :
    (s.acceptLap x a).events.bounded := by
  unfold State.acceptLap
  repeat' first | with_reducible assumption | split | dsimp only | simp only [State.events_setRace] | with_reducible
      apply State.post_bounded | with_reducible apply State.ownFinishes_bounded

theorem State.leaveForAttract_bounded {s : State} (h : s.events.bounded) :
    (s.leaveForAttract).events.bounded := by
  unfold State.leaveForAttract
  repeat' first | with_reducible assumption | split | dsimp only | simp only [State.events_setRace,
      State.setOwn_keeps] | with_reducible apply State.leaveRace_bounded

theorem State.goOffline_bounded {s : State} (h : s.events.bounded) :
    (s.goOffline).state.events.bounded := by
  unfold State.goOffline
  repeat' first | with_reducible assumption | split | dsimp only | simp only [State.toOffline_keeps] | with_reducible
      apply State.placeControl_bounded

theorem State.restart_bounded {s : State} (_h : s.events.bounded) :
    (s.restart).state.events.bounded := by
  refine ⟨by simp [State.restart], by simp [State.restart, overflowHeld], by simp [State.restart]⟩

theorem State.lap_bounded {s : State} (h : s.events.bounded) :
    (s.lap).state.events.bounded := by
  unfold State.lap
  repeat' first | with_reducible assumption | split | dsimp only | simp only [State.refuse_keeps] | with_reducible
      apply State.acceptLap_bounded

theorem State.quit_bounded {s : State} (h : s.events.bounded) :
    (s.quit).state.events.bounded := by
  unfold State.quit
  repeat' first | with_reducible assumption | split | dsimp only | simp only [State.refuse_keeps] | with_reducible
      apply State.placeControl_bounded | with_reducible apply State.leaveForAttract_bounded

theorem State.ackResults_bounded {s : State} (h : s.events.bounded) :
    (s.ackResults).state.events.bounded := by
  unfold State.ackResults
  repeat' first | with_reducible assumption | split | dsimp only | simp only [State.refuse_keeps] | with_reducible
      apply State.leaveForAttract_bounded

theorem settle_bounded {b s : State} (h : s.events.bounded) : (settle b s).events.bounded := by
  unfold settle
  dsimp only
  split
  · exact State.arbitrate_bounded (by simpa using h)
  · simpa using h

end Sys2Proof.Machine
end

