-- ==== Sys2Proof/Laws/Steps.lean ====
section
/-! SUPPORT. Steps as a whole: the rule of an invariant, what is due, an event that makes no work pending, and
FRAME_COMPLETION of a valid frame. -/

namespace Sys2Proof.Machine

/-- What every command keeps, the queue, the free-value count and the tick apart, every step keeps. -/
theorem step_invariant {P : State → Prop} (queue : ∀ s l, P s → P { s with pending := l })
    (free : ∀ s n, P s → P { s with free := n }) (tick : ∀ s, P s → P s.advance)
    (command : ∀ c s t, P s → exec c s = .next t → P t) {s t : State} (h : P s) (hs : step s = .next t) : P t := by
  unfold step at hs
  split at hs
  · exact command _ _ _ (queue _ _ h) hs
  · cases hs
    have option : ∀ s o, P s → P (s.takeOption o) := by
      intro s o h
      cases o with
      | none => exact tick _ h
      | some c => exact queue _ _ h
    unfold State.idle
    split
    · exact tick _ h
    · exact option _ _ h
    · exact option _ _ (free _ _ h)

/-- What a list of events holds that is there if a test holds. -/
theorem mem_dueIf {b : Bool} {c d : Instr} : c ∈ dueIf b d ↔ b = true ∧ c = d := by
  unfold dueIf
  split <;> simp_all

/-- A timer is due when it runs and its instant is reached (R3). -/
theorem Timer.due_iff {now : Instant} {t : Timer} : t.due now = true ↔ ∃ i, t = some i ∧ interval now i ≤ 0 := by
  unfold Timer.due reached
  cases t <;> simp

/-- The next event of a build, at its time or before it (R13, R137). -/
theorem State.mem_buildStep {s : State} {due : Bool} {c : Instr} :
    c ∈ s.buildStep due ↔ ∃ b, s.image.build = some b ∧ b.due s.tick = due ∧
      ((b.next < 8 ∧ c = .buildEntryRead) ∨ (8 ≤ b.next ∧ c = .buildCompletion)) := by
  unfold State.buildStep
  cases s.image.build with
  | none => simp
  | some b =>
    simp only [mem_dueIf, beq_iff_eq, Option.some.injEq, exists_eq_left', Build.nextEvent]
    by_cases h : b.next < 8 <;> simp [h, Nat.not_lt.mp, Nat.not_le.mpr]

/-- The row of a level that the last two samples confirm anew (R4). -/
theorem State.mem_confirmation {s : State} {c : Instr} :
    c ∈ s.frame.toConfirm.toList.map s.frame.confirmation ↔
      ∃ high, s.frame.sampling = true ∧ s.frame.newest = some high ∧ s.frame.previous = some high ∧
        s.frame.level ≠ some high ∧ ((s.frame.level = some true ∧ high = false ∧ c = .candidatePulse) ∨
          (¬ (s.frame.level = some true ∧ high = false) ∧ c = .frameInputLevelConfirmed high)) := by
  have row : ∀ high, (c = s.frame.confirmation high ↔
      (s.frame.level = some true ∧ high = false ∧ c = .candidatePulse) ∨
        (¬ (s.frame.level = some true ∧ high = false) ∧ c = .frameInputLevelConfirmed high)) := by
    intro high
    unfold FrameCapture.confirmation
    split <;> simp_all
  simp only [← row]
  unfold FrameCapture.toConfirm
  split
  · rename_i h
    obtain ⟨h1, h2, h3, h4⟩ := h
    obtain ⟨v, hv⟩ := Option.isSome_iff_exists.mp h2
    rw [hv] at h3 h4 ⊢
    simp only [Option.toList, List.map, List.mem_singleton]
    constructor
    · exact fun h => ⟨v, h1, rfl, h3.symm, fun h => h4 h.symm, h⟩
    · rintro ⟨w, _, h5, _, _, h⟩
      cases h5
      exact h
  · rename_i hn
    simp only [Option.toList, List.map, List.not_mem_nil, false_iff]
    rintro ⟨v, h1, h2, h3, h4, _⟩
    exact hn ⟨h1, by rw [h2]; rfl, by rw [h2, h3], by rw [h2]; exact fun h => h4 h.symm⟩

/-- An event that leaves work pending as it was is followed at most by the loss of the current frame. -/
theorem settle_of_work {s t : State} (h : t.workPending = s.workPending) : settle s t = t.loseCurrent := by
  unfold settle
  dsimp only
  rw [if_neg]
  rintro ⟨hs, ht, _⟩
  rw [hs] at h
  have hc : t.tx.current = none := by
    unfold State.workPending State.nextFrame at h
    split at h <;> simp_all
  have hl : t.loseCurrent = t := by
    unfold State.loseCurrent
    rw [hc]
  rw [hl, h] at ht
  cases ht

/-- The loss of the current frame changes the Transmitter alone. -/
theorem State.loseCurrent_eq (s : State) : s.loseCurrent = { s with tx := s.loseCurrent.tx } := by
  unfold State.loseCurrent
  split
  · rfl
  · split <;> rfl

/-- The durations of a bit rate, in ns and µs (R17). -/
theorem Straps.durations_eq (p : Straps) :
    p.bitPeriod = 4000 / 2 ^ p.rate.val ∧ p.receiveDelay = BitVec.ofNat 32 (8 / 2 ^ p.rate.val) ∧
      p.idleGap = 48 / 2 ^ p.rate.val ∧ p.slot = 64 / 2 ^ p.rate.val := by
  obtain ⟨station, rate, lowFirst⟩ := p
  match rate with
  | 0 | 1 | 2 =>
    simp [Straps.bitPeriod, Straps.receiveDelay, Straps.idleGap, Straps.slot, Straps.bitPeriods, micros]
  | 3 =>
    simp only [Straps.bitPeriod, Straps.receiveDelay, Straps.idleGap, Straps.slot, Straps.bitPeriods, micros]
    decide

/-- The receive delay is two bit periods (R17). -/
theorem Straps.receiveDelay_eq (p : Straps) : p.receiveDelay = BitVec.ofNat 32 (8 / 2 ^ p.rate.val) :=
  p.durations_eq.2.1

/-- The tick advances in Frame Capture, which samples (R4), and in the Transmitter: the count of STUCK and the hold on an
open line (R40, R48). -/
theorem State.advance_eq (s : State) :
    s.advance = { s with
      tick := s.tick + 1
      frame := s.advance.frame
      free := s.advance.free
      tx := { s.tx with
        stuckCount := s.advance.tx.stuckCount, opportunity := s.advance.tx.opportunity } } := by
  unfold State.advance State.sampleInput Transmitter.countStuck Transmitter.keepOpen
  repeat' split
  all_goals rfl

/-- The sample of the tick (R4, R5). -/
theorem State.advance_frame (s : State) : s.advance.frame = s.frame.sample s.advance.frame.coming := by
  unfold State.advance State.sampleInput FrameCapture.sample
  by_cases h : s.frame.sampling = true <;> simp [h]

/-- A frame-absent expiry that waits for the next tick meets a candidate there (R4, R11). -/
theorem State.absentMayWait_candidate {s : State} (h : s.absentMayWait = true) :
    Instr.candidatePulse ∈ s.advance.dueEvents := by
  simp only [State.absentMayWait, FrameCapture.forming, Bool.and_eq_true, decide_eq_true_eq, Bool.not_eq_true'] at h
  obtain ⟨⟨⟨⟨⟨⟨h1, _⟩, h2⟩, h3⟩, _⟩, h4⟩, _⟩ := h
  have hm : Instr.candidatePulse ∈ s.advance.frame.toConfirm.toList.map s.advance.frame.confirmation := by
    rw [State.mem_confirmation]
    refine ⟨false, ?_⟩
    rw [State.advance_frame]
    simp [FrameCapture.sample, h1, h2, h3, h4]
  simp only [State.dueEvents, State.frameDue, List.mem_append]
  exact Or.inl (Or.inl (Or.inl (Or.inl (Or.inl (Or.inl (Or.inr (Or.inr hm)))))))

/-- The opportunity instant after the tick has advanced (R40). -/
theorem State.advance_opportunity (s : State) :
    s.advance.tx.opportunity = s.tx.opportunity.map fun o =>
      if reached s.tick o && !reached (s.tick + 1) o then s.tick + 1 else o := by
  unfold State.advance State.sampleInput Transmitter.countStuck Transmitter.keepOpen
  repeat' split
  all_goals rfl

/-- A line that is open stays open as the tick advances (R40). -/
theorem State.advance_keeps_line_open {s : State} (h : s.lineOpen = true) : s.advance.lineOpen = true := by
  unfold State.lineOpen at *
  rw [State.advance_opportunity, show s.advance.tick = s.tick + 1 by rw [State.advance_eq]]
  cases ho : s.tx.opportunity with
  | none => simp [ho] at h
  | some o =>
    simp only [ho] at h
    rw [Option.map_some, h]
    cases hr : reached (s.tick + 1) o with
    | true => exact hr
    | false => exact decide_eq_true (by rw [interval, Bool.true_and, Bool.not_false, if_pos rfl, BitVec.sub_self]; decide)

/-- FRAME_COMPLETION of a valid frame that is not this station's readback (R24, R25). -/
theorem exec_frameCompletion_valid {s : State} {r : Instant} {bytes : List Byte} {f : BusFrame}
    (ha : s.rx.arrival = some r) (hp : ¬ (s.tx.phase = .sending ∧ f.sender = s.own)) (hc : s.tx.crossing = false)
    (hv : checkFrame bytes = .valid f) :
    exec (.frameCompletion bytes) s = done s (s.hear f (s.busInstant r)) := by
  simp only [exec, execFrameCompletion]
  rw [ha]
  dsimp only
  rw [if_neg (by rw [hc]; decide), hv]
  dsimp only
  rw [if_neg hp]

/-- A frame that is discarded (R24, R52). -/
theorem exec_frameCompletion_discarded {s : State} {r : Instant} {bytes : List Byte} {why : Discard}
    (ha : s.rx.arrival = some r) (hc : s.tx.crossing = false) (hv : checkFrame bytes = .discarded why) :
    exec (.frameCompletion bytes) s = done s (s.setRx s.rx.discard) := by
  simp only [exec, execFrameCompletion]
  rw [ha]
  dsimp only
  rw [if_neg (by rw [hc]; decide), hv]

end Sys2Proof.Machine
end

