-- ==== Sys2Proof/WellFormed.lean ====
section
/-! DEFINITION. Which commands can be sent: the bounds the manual sets on operands. -/

namespace Sys2Proof

/-- A command whose operands the manual allows: the loader reads at most 32 bytes (R187), a frame whose fortieth byte
begins is broken and never completes (R20), and UNKNOWN_COMMAND carries a code that names no command (R168, R169). -/
def Instr.wellFormed : Instr → Bool
  | .hardwareReset _ _ _ memory => memory.length ≤ 32
  | .frameCompletion bytes => bytes.length ≤ 39
  | .unknownCommand code => code.toNat = 0 || 16 < code.toNat
  | .loadCompletion | .candidatePulse | .frameAbsentTimerExpiry | .buildEntryRead | .buildCompletion => true
  | .lineBusy | .idleGap | .frameBroken | .startOpportunity | .readBackWhole | .collision => true
  | .stuckWatchExpiry | .callCadenceTimerExpiry | .reportSpacingTimerExpiry | .resendTimerExpiry => true
  | .presenceTimerExpiry _ | .lostTimerExpiry _ | .silenceTimerExpiry | .lobbyTimerExpiry => true
  | .lockTimerExpiry | .greenTimerExpiry | .graceCloseTimerExpiry | .limitCloseTimerExpiry => true
  | .resultsCeilingTimerExpiry | .blinkTimerExpiry | .lampStepTimerExpiry _ | .lampGreenTimerExpiry => true
  | .holdTimerExpiry | .configure | .readConfig | .goOnline | .goOffline | .restart | .enter => true
  | .cancelEntry | .postCar | .lap | .quit | .openImage | .readResults | .ackResults | .readPeer => true
  | .readHealth | .setOutput | .commandLost _ | .commandCompletion | .eventRelease => true
  | .interruptEnableWrite _ | .portWrite _ _ | .frameInputLevelConfirmed _ => true
  | .startDelimiterRecognised => true

end Sys2Proof
end

