-- ==== Sys2Proof/Tests/Slice0.lean ====
section
/-! SUPPORT. Tests of the model: ill-formed terms that are refused, worked figures of the manual, and for each statement
states that meet its hypotheses together, at the ends of their ranges, with what the command then does. -/

namespace Sys2Proof.Tests

open Sys2Proof.Machine Sys2Proof.Claims

-- One test at a time: each is a kernel evaluation of its own, and many at once need a thread each.
set_option Elab.async false

/-! ## Ill-formed commands -/

theorem test_memory_too_long : (Instr.hardwareReset 0 0 false (List.replicate 33 0)).wellFormed = false := by decide

theorem test_frame_too_long : (Instr.frameCompletion (List.replicate 40 0)).wellFormed = false := by decide

theorem test_known_code_is_not_unknown : (Instr.unknownCommand 16).wellFormed = false := by decide

/-! ## Worked figures of the manual -/

/-- R23 and R187: the check values over the nine digits. -/
theorem test_crc_check_values :
    crc16 [0x31, 0x32, 0x33, 0x34, 0x35, 0x36, 0x37, 0x38, 0x39] = 0x29B1#16 ∧
      crc8 [0x31, 0x32, 0x33, 0x34, 0x35, 0x36, 0x37, 0x38, 0x39] = 0xF4#8 := by decide +kernel

/-- 04, "A quality window, worked": the count of received positions after each frame. -/
theorem test_quality_window :
    let w1 := shiftWindow (List.replicate 16 true) (some 252) 255
    let w2 := shiftWindow w1 (some 255) 3
    w1.count true = 14 ∧ w2.count true = 11 ∧ (shiftWindow w1 (some 255) 250).count true = 1 := by decide +kernel

/-- 07, "Rounding, worked". -/
theorem test_rounding :
    carryStep (BitVec.ofInt 16 700) 21500 = 459 ∧ carryStep (BitVec.ofInt 16 (-350)) 21500 = -230 ∧
      carryStep 1 16384 = 1 ∧ carryStep (BitVec.ofInt 16 (-1)) 16384 = 0 := by decide +kernel

/-- 07, "Limits, worked": position, progress and heading at their limits. -/
theorem test_limits :
    (carryPosition (BitVec.ofInt 24 8388000) 32767 100000).toInt = 8388607 ∧
      carryProgress 100 (BitVec.ofInt 16 (-500)) 50000 = 0 ∧ carryHeading 65000 10000 50000 = 14723 := by
  decide +kernel

/-! ## States -/

/-- The next state a command gives. -/
def after (c : Instr) (s : State) : State :=
  match exec c s with
  | .next t => t
  | .fault _ => s
  | .refused _ => s

/-- A part at tick 10,000,000 after load completion, in an own race state, with the line BUSY. -/
def base (own : OwnState) : State :=
  { State.reset with
    tick := 10000000
    frame := ⟨true, some true, some true, some true, .absent, 0, [], none, none, none, true⟩
    rx := ⟨.busy, false, none, false, 0, 0⟩
    cmd := { CommandUnit.initial with unit := .idle }
    race := { Sequencer.initial with own := own } }

/-- Station 0 in the race of stations 0, 1 and 2 over 3 laps, green at a tick. -/
def inRace (own : OwnState) (green : Instant) : State :=
  let s := base own
  { s with
    race := { s.race with entry := some ⟨7, 3⟩, record := some ⟨1, green, false, ⟨7, 3⟩, 0b111⟩ }
    peers := { s.peers with
      entries := (s.peers.entries.set 1 { Entry.initial with state := .racing, lastHeard := some 9999000 }).set 2
        { Entry.initial with state := .racing } } }

/-- One entry replaced. -/
def withEntry (s : State) (p : Station) (e : Entry) : State := s.setEntry p e

/-- The argument buffer written. -/
def withArguments (s : State) (l : List Word) : State :=
  s.setCmd { s.cmd with arguments := l ++ List.replicate (16 - l.length) 0 }

/-- A frame being assembled whose bus instant is 9,999,990. -/
def hearing (s : State) : State := s.setRx { s.rx with arrival := some 9999998 }

/-- A car of zeros sampled at an instant. -/
def carAt (sample : Instant) : CarValues := { CarValues.zero with sample := sample }

/-- A CAR of zeros, of an age, with or without a finish age. -/
def report (age : BitVec 24) (finish : Option (BitVec 32)) : CarReport :=
  ⟨age, 0, 0, 0, 0, 0, 0, 0, 0, 0, 0, .onRoad, false, false, 1, finish⟩

/-- A frame of a sender as bytes. -/
def frameBytes (p : Station) (x : Payload) : List Byte := (BusFrame.mk p false 1 x).bytes

/-- A START for the race of `inRace`. -/
def proposal (lead : BitVec 24) (mask : Byte) : StartProposal := ⟨lead, mask, ⟨7, 3⟩⟩

/-- The Transmitter SENDING a frame of a source. -/
def sending (s : State) (x : Source) (collisions : Nat) : State :=
  s.setTx { s.tx with
    phase := .sending
    current := some ⟨x, collisions, 0⟩
    inFlight := some ⟨9999000, x, s.ownFrame x⟩ }

/-- The line open to this station. -/
def openLine (s : State) : State :=
  (s.setRx { s.rx with monitor := .idle }).setTx { s.tx with opportunity := some 10000000 }

/-- The hypothesis of the statements about frames from other stations. -/
theorem test_assembling (s : State) (h1 : s.tx.crossing = false) (h2 : s.straps.rate = 0) :
    assembling (hearing s) 9999990 := by
  refine ⟨⟨9999998, rfl, ?_⟩, h1⟩
  show _ = _ - BitVec.ofNat 32 (8 / 2 ^ s.straps.rate.val)
  rw [h2]
  rfl

/-! ## The queue, time and the invariants -/

theorem test_front_command_witness :
    let s := { base .attract with pending := [Instr.idleGap, .lineBusy] }
    s.pending = .idleGap :: [.lineBusy] ∧ (after .idleGap { s with pending := [.lineBusy] }).pending = [.lineBusy] := by
  decide +kernel

theorem test_time_witness : State.reset.pending = [] ∧ ∃ t, step State.reset = .next t ∧ t.tick = 1 :=
  ⟨rfl, _, rfl, rfl⟩

/-- What is due and what only may come, at the ends of each range (R3, R13, R40, R166, R190). -/
theorem test_due_witness :
    let busy := fun (n : Instant) => (base .offline).setCmd { CommandUnit.initial with unit := .busy .ok [] (10000000 - n) }
    let build := fun next (n : Instant) => (base .offline).setImage { ImageBuilder.initial with build := some ⟨next, 10000000 - n⟩ }
    let lost := fun i => withEntry (base .offline) 3 { Entry.initial with lostTimer := some i }
    (busy 50).dueEvents = [.commandCompletion] ∧ (busy 50).possibleEvents = [] ∧ (busy 49).dueEvents = [] ∧
      (busy 49).possibleEvents = [.commandCompletion] ∧ (build 7 999).dueEvents = [.buildEntryRead] ∧
      (build 8 999).dueEvents = [.buildCompletion] ∧ (build 8 998).possibleEvents = [.buildCompletion] ∧
      (build 8 998).dueEvents = [] ∧ (lost 10000000).dueEvents = [.lostTimerExpiry 3] ∧ (lost 10000001).dueEvents = [] ∧
      (openLine (base .attract)).dueEvents = [.startOpportunity] ∧ (base .attract).dueEvents = [] ∧
      (State.reset.setTick 5000).dueEvents = [.loadCompletion] := by decide +kernel

/-- What the last two samples confirm, from each level, and the sample that each tick takes (R4, R5). -/
theorem test_samples_witness :
    let s := fun level newest previous => { base .offline with
      frame := { (base .offline).frame with level := level, newest := newest, previous := previous } }
    let t := s (some true) (some false) (some true)
    (s (some true) (some false) (some false)).dueEvents = [.candidatePulse] ∧
      (s (some false) (some true) (some true)).dueEvents = [.frameInputLevelConfirmed true] ∧
      (s none (some false) (some false)).dueEvents = [.frameInputLevelConfirmed false] ∧
      (s none none none).dueEvents = [] ∧ (s none (some false) none).dueEvents = [] ∧ t.dueEvents = [] ∧
      (s (some true) (some true) (some true)).dueEvents = [] ∧
      t.advance.frame.previous = some false ∧ t.advance.frame.newest = some true ∧ t.advance.free = t.free + 1 ∧
      State.reset.advance.frame.newest = none ∧
      (after .candidatePulse (s (some true) (some false) (some false))).dueEvents = [] := by decide +kernel

/-- The last tick at which an instant counts as reached: the open line stays open at the next (R40). -/
theorem test_open_line_witness :
    let s := (openLine (base .offline)).setTick (10000000 + 0x80000000)
    let t := (openLine (base .offline)).setTick 9999998
    s.pending = [] ∧ reached (s.tick + 1) 10000000 = false ∧ s.lineOpen = true ∧ s.advance.lineOpen = true ∧
      t.lineOpen = false ∧ t.advance.tx.opportunity = some 10000000 ∧ t.advance.lineOpen = false := by decide +kernel

/-- Two posts beyond a full queue: one OVERFLOW record that counts both. -/
theorem test_invariants_witness :
    (base .attract).events.records.length ≤ 32 ∧
      (let r : EventRecord := ⟨.green, 0, 0, 0⟩
       let q := postRecord 0 0 r (postRecord 0 0 r (List.replicate 31 r))
       q.length = 32 ∧ q.getLast? = some ⟨.overflow, 0, 2, 0⟩) := by decide +kernel

/-- The Command Unit at reset, and with a reply of 16 words and one of 17. -/
theorem test_command_unit_witness :
    let c := fun n => (after .commandCompletion ((base .attract).setCmd
      { CommandUnit.initial with unit := .busy .ok (List.replicate n 1) 9999990 })).cmd
    State.reset.cmd.arguments.length = 16 ∧ State.reset.cmd.reply.length = 16 ∧ (c 16).replyLength = 16 ∧
      (c 16).reply.length = 16 := by decide +kernel

/-! ## Start-up -/

/-- The three outcomes of the one read: no answer, a wrong CRC-8, and an accepted memory of zeros. -/
theorem test_load_completion_witness :
    let at' (m : List Byte) := { State.afterReset ⟨3, 0, false⟩ m with tick := 5000 }
    let s := at' (List.replicate 31 0 ++ [1])
    (s.cmd.unit = .loading ∧ s.loader.loadTimer = some 5000 ∧ reached s.tick 5000 = true ∧ s.events.records = []) ∧
      reached 4999 5000 = false ∧
      (after .loadCompletion (at' (List.replicate 31 0))).events.records = [⟨.configDefaulted, 3, 1, 5000⟩] ∧
      (after .loadCompletion s).events.records = [⟨.configDefaulted, 3, 2, 5000⟩] ∧
      (after .loadCompletion (at' (List.replicate 32 0))).loader.settings.horizon = 16 := by decide +kernel

/-- A configuration memory with its limits passed at both ends, and each value of a pin field. -/
theorem test_memory_settings_witness :
    let low := settingsOfMemory (List.replicate 32 0)
    let high := settingsOfMemory (List.replicate 32 0xFF)
    let pins' := settingsOfMemory (List.replicate 21 0 ++ [2, 200, 201, 0, 0x21, 0x84, 0x13, 0x88, 0b11100100, 0b11100100, 0])
    (low.horizon, low.lostTimeout, low.th0, low.headingThreshold, low.blendShift) = (16, 100, 1, 1, 1) ∧
      (low.reportSpacing, low.lobbyWindow, low.minField, low.startLead, low.raceLimit, low.finishGrace) =
        (4, 5, 1, 3000, 60, 5) ∧
      (high.horizon, high.lostTimeout, high.th1, high.headingThreshold, high.blendShift) =
        (250, 2000, 65535, 32768, 6) ∧
      (high.reportSpacing, high.lobbyWindow, high.minField, high.startLead, high.raceLimit, high.finishGrace) =
        (50, 60, 8, 10000, 1800, 60) ∧
      high.surfaceMap = 15 ∧ high.eventMask = 0xFFFFFF ∧
      pins'.lampSteps = ⟨⟨100, 1⟩, ⟨10000, 2⟩, ⟨10000, 4⟩, ⟨0, 8⟩⟩ ∧ pins'.greenHold = 5000 ∧
      pins'.failSafe = ⟨.off, .on, .blink, .blink⟩ ∧ pins'.functions = ⟨.lamp, .link, .plain, .plain⟩ := by
  decide +kernel

/-! ## Frame Capture and images -/

/-- A pulse 3,999 and 4,000 µs after the last, and one in ABSENT. -/
theorem test_candidate_pulse_witness :
    let s := fun (c : Instant) => { base .attract with
      frame := ⟨true, some true, some true, some true, .present, 5, [⟨5, c⟩], none, some (c + 100000), some c, true⟩ }
    (s 9996000).currentStands = true ∧ interval 9996000 9999999 = 3999 ∧ interval 9995999 9999999 = 4000 ∧
      (after .candidatePulse (s 9996000)).frame.counter = 5 ∧
      (after .candidatePulse (s 9995999)).frame.history = [⟨5, 9995999⟩, ⟨6, 9999999⟩] ∧
      (after .candidatePulse (base .attract)).events.records = [⟨.frameReturned, 0, 1, 9999999⟩] := by decide +kernel

/-- A pulse captured at the instant of the frame-absent expiry: the expiry may wait, and the pulse taken first has a period
of 100,000 µs (R11). A spike one sample wide there does not hold the expiry up (R4). -/
theorem test_pulse_at_absent_expiry_witness :
    let input := fun (tick : Instant) newest previous coming => { base .offline with
      tick := tick
      frame := ⟨true, some true, newest, previous, .present, 5, [⟨5, 9900000⟩], none, some 10000000, some 9900000, coming⟩ }
    let s := fun (tick : Instant) newest previous => input tick newest previous false
    let first := s 10000000 (some false) (some true)
    let second := s 10000001 (some false) (some false)
    (input 10000000 (some false) (some true) true).dueEvents = [.frameAbsentTimerExpiry] ∧
      (input 10000000 (some false) (some true) true).possibleEvents = [] ∧
      first.advance.dueEvents = [.frameAbsentTimerExpiry, .candidatePulse] ∧ first.dueEvents = [] ∧ first.possibleEvents = [.frameAbsentTimerExpiry] ∧
      (s 10000000 (some false) (some false)).dueEvents = [.frameAbsentTimerExpiry, .candidatePulse] ∧
      (s 10000000 (some true) (some true)).dueEvents = [.frameAbsentTimerExpiry] ∧
      (s 10000001 (some true) (some false)).dueEvents = [.frameAbsentTimerExpiry] ∧
      (s 10000001 (some false) (some true)).dueEvents = [.frameAbsentTimerExpiry] ∧
      second.dueEvents = [.frameAbsentTimerExpiry, .candidatePulse] ∧
      (after .candidatePulse second).frame.period = some 100000 ∧ (after .candidatePulse second).dueEvents = [] ∧
      (after .candidatePulse (after .frameAbsentTimerExpiry second)).events.records =
        [⟨.frameLost, 0, 5, 10000000⟩, ⟨.frameReturned, 0, 6, 10000000⟩] := by decide +kernel

theorem test_build_start_witness :
    let s := inRace .countdown 12000000
    s.frame.sampling = true ∧ s.frame.level = some true ∧ s.frame.input = .absent ∧ s.image.build = none ∧
      (after .candidatePulse s).image.build = some ⟨0, 10000000⟩ ∧
      ((after .candidatePulse s).image.filling.map fun i => (i.mask, i.timeToGreen)) = some (7#8, 2000#16) ∧
      (after .candidatePulse (base .offline)).image = ImageBuilder.initial := by decide +kernel

theorem test_frame_absent_witness :
    let s := { base .attract with
      frame := ⟨true, none, none, none, .present, 5, [⟨5, 9900000⟩], none, some 10000000, some 9900000, true⟩ }
    s.frame.absentTimer = some 10000000 ∧ reached s.tick 10000000 = true ∧ s.currentStands = true ∧
      (after .frameAbsentTimerExpiry s).events.records = [⟨.frameLost, 0, 5, 10000000⟩] ∧
      (after (.frameInputLevelConfirmed false) s).frame.level = some false ∧
      (after .candidatePulse (after (.frameInputLevelConfirmed false) s)).frame.counter = 5 ∧
      (after (.frameInputLevelConfirmed true) s).frame.newest = some true ∧
      after (.frameInputLevelConfirmed false) (base .attract) = after .candidatePulse (base .attract) := by decide +kernel

/-- An entry of each way of showing: without a record, the own one, a held one, and one 20,000 µs old. -/
theorem test_build_read_witness :
    let i := (inRace .racing 9000000).startImage 6 10000000
    let s := fun (p : Station) (e : Entry) => { withEntry (inRace .racing 9000000) p e with
      image := ⟨.filling i, .free, .free, some ⟨p.val, 10000000⟩⟩ }
    let car : CarRecord := ⟨{ carAt 9980000 with vx := 32767 }, 2, false, none⟩
    let read := fun p e => (after .buildEntryRead (s p e)).image.filling.map fun j => j.records.get p
    (s 7 Entry.initial).image.build = some ⟨7, 10000000⟩ ∧ (s 7 Entry.initial).image.filling = some i ∧
      (read 7 Entry.initial).map StationRecord.noPosition = some true ∧
      (read 0 { Entry.initial with car := some car }).map StationRecord.x = some 0 ∧
      (read 2 { Entry.initial with car := some car, state := .lost }).map StationRecord.held = some true ∧
      (read 1 { Entry.initial with car := some car, state := .racing, display := ⟨8, 0, 0, 0, 0, 0, 0, 0, 0, true, true⟩ }).map
        (fun r => (r.x, r.snapped, r.stale)) = some (20007#24, true, false) := by decide +kernel

/-- A read in the middle bank leaves the READY and the OPEN bank as they were. -/
theorem test_build_read_keeps_banks_witness :
    let i := (inRace .racing 9000000).startImage 6 10000000
    let s := { inRace .racing 9000000 with image := ⟨.ready i, .filling i, .opened i, some ⟨7, 10000000⟩⟩ }
    let t := after .buildEntryRead s
    t.image.bank0 = .ready i ∧ t.image.filling.isSome = true ∧ t.image.bank1.fillingImage = t.image.filling ∧
      t.image.bank2 = .opened i := by decide +kernel

theorem test_decay_witness : 1 ≤ 2 ∧ decay 2 37 = 28 ∧ decay 2 (-1) = 0 ∧ decay 6 1 = 0 := by decide +kernel

/-- The corrections of a displayed entry decay, and a HELD record at a later build shows what was displayed. -/
theorem test_decay_of_each_correction_witness :
    let i := (inRace .racing 9000000).startImage 6 10000000
    let e : Entry := { Entry.initial with
      state := .racing, car := some ⟨carAt 10000000, 2, false, none⟩
      display := ⟨37, -37, 1, BitVec.ofInt 16 (-16), 0, 0, 0, 0, 0, true, false⟩ }
    let s := { withEntry (inRace .racing 9000000) 1 e with image := ⟨.filling i, .free, .free, some ⟨1, 10000000⟩⟩ }
    let t := after .buildEntryRead s
    let later := { withEntry t 1 { t.entry 1 with state := .lost } with
      image := ⟨.filling i, .free, .free, some ⟨1, 10000000⟩⟩ }
    s.settings.blendShift = 3 ∧
      (t.entry 1).display = ⟨33, -33, 0, BitVec.ofInt 16 (-14), 37, BitVec.ofInt 24 (-37), 1, BitVec.ofInt 16 (-16), 0,
        false, true⟩ ∧
      ((after .buildEntryRead later).image.filling.map fun j => (j.records.get 1).held) = some true ∧
      ((after .buildEntryRead later).image.filling.map fun j => (j.records.get 1).x) = some 37 ∧
      ((after .buildEntryRead later).entry 1).display = (t.entry 1).display := by decide +kernel

/-- A half goes up, at both ends of an interval. -/
theorem test_nearest_witness : nearest (1 * 16384) 1 ∧ nearest ((-1) * 16384) 0 ∧ nearest (32767 * 32768) 32767 := by
  unfold nearest
  decide

theorem test_build_completion_witness :
    let i := { (inRace .racing 9000000).startImage 6 10000000 with mask := 0b10000001 }
    let s := { base .racing with image := ⟨.ready i, .filling i, .opened i, some ⟨8, 10000000⟩⟩ }
    s.image.build = some ⟨8, 10000000⟩ ∧ 8 ≤ 8 ∧ (after .buildCompletion s).image.bank0 = .free ∧
      i.complete.ranking = [0, 7] ∧ (i.complete.records.get 7).rank = 2 := by decide +kernel

theorem test_open_image_witness :
    let i := (base .attract).startImage 6 10000000
    let s := { base .attract with image := ⟨.ready i, .free, .free, none⟩ }
    s.cmd.unit = .idle ∧ s.image.ready = some i ∧ (after .openImage s).image.opened = some i ∧
      (after .openImage s).portRead 0x10F = 1 ∧ (base .attract).image.opened = none ∧
      (after .openImage (base .attract)).cmd.unit = .busy .noNewer [0, 0] 10000000 := by decide +kernel

/-- A negative position, every flag, two ranks and a finish as the window shows them. -/
theorem test_image_window_witness :
    let i := { (base .racing).startImage 6 10000000 with ranking := [2, 7] }
    let r : StationRecord := { i.records.get 7 with
      own := true, stale := true, snapped := true, held := true, noPosition := true, finishValid := true
      x := 0x800000, g := 0x12345678, finish := 5, rank := 2, laps := 3, state := 4, quality := 16 }
    let s := { base .racing with image := ⟨.opened { i with records := i.records.set 7 r }, .free, .free, none⟩ }
    s.image.opened.isSome = true ∧ s.portRead 0x10A = 0x0702 ∧ s.portRead 0x10B = 0xFFFF ∧ s.portRead 0x10E = 2 ∧
      s.portRead 0x172 = 0x1004 ∧ s.portRead 0x173 = 0x3F ∧
      (s.portRead 0x174, s.portRead 0x175) = (0xFF80, 0x0000) ∧
      (s.portRead 0x17B, s.portRead 0x17C) = (0x1234, 0x5678) ∧ s.portRead 0x17D = 0x0203 ∧
      (s.portRead 0x17E, s.portRead 0x17F) = (0, 5) := by decide +kernel

/-! ## The line -/

theorem test_line_activity_witness :
    let s := openLine (base .attract)
    s.rx.monitor = .idle ∧ (after .lineBusy s).tx.opportunity = none ∧ (after .lineBusy s).rx.awaiting = true ∧
      (after .startDelimiterRecognised (after .lineBusy s)).rx.arrival = some 10000000 := by decide +kernel

/-- After station 0's own frame d is 7; in BACKOFF its backoff joins; in STUCK the bus is clear. -/
theorem test_idle_gap_witness :
    let s := (base .offline).setTx { (base .offline).tx with phase := .backoff, current := some ⟨.withdraw 1, 1, 15⟩ }
    let stuck := (base .offline).setTx { (base .offline).tx with phase := .stuck, stuckCount := 3 }
    s.currentStands = true ∧ s.rx.monitor = .busy ∧
      (after .idleGap (base .offline)).tx.opportunity = some 10000448 ∧
      (after .idleGap s).tx.opportunity = some 10001408 ∧
      (after .idleGap stuck).events.records = [⟨.busClear, 0, 3, 10000000⟩] ∧
      (after .idleGap (hearing stuck)).rx = ⟨.idle, false, none, false, 0, 1⟩ ∧
      (after .idleGap stuck).rx = ⟨.idle, false, none, false, 0, 0⟩ := by decide +kernel

/-- STUCK left with a CALL due: at d of 0 the CALL departs at the event, at d of 1 it waits. -/
theorem test_stuck_left_witness :
    let s := fun last => (base .attract).setTx { (base .attract).tx with phase := .stuck, lastSender := last }
    (s 7).workPending = false ∧ (after .idleGap (s 7)).tx.phase = .sending ∧
      (after .idleGap (s 7)).tx.inFlight.map InFlight.departure = some 10000000 ∧
      (after .idleGap (s 6)).tx.phase = .ready ∧ (after .idleGap (s 6)).tx.opportunity = some 10000064 := by decide +kernel

/-- The durations of a byte time at the ends of RATE, and an IDLE_GAP in STUCK with d of 7. -/
theorem test_durations_witness :
    ((⟨0, 0, false⟩ : Straps).bitPeriod, (⟨0, 3, false⟩ : Straps).bitPeriod) = (4000, 500) ∧
      ((⟨0, 0, false⟩ : Straps).slot, (⟨0, 3, false⟩ : Straps).slot) = (64, 8) ∧
      (after .idleGap ((base .offline).setTx { (base .offline).tx with phase := .stuck })).tx.opportunity =
        some 10000448 := by decide +kernel

/-- One run of bytes for each check of R24, and a valid frame. -/
theorem test_frame_checks_witness :
    let good := frameBytes 3 (.withdraw 1)
    let crcOf := fun (b : List Byte) => b ++ bytes2 (crc16 b)
    checkFrame [] = .discarded .broken ∧ checkFrame (good ++ [0]) = .discarded .broken ∧
      checkFrame (good.take 5 ++ [0]) = .discarded .crc ∧ checkFrame (crcOf [0x00, 0, 0]) = .discarded .kind ∧
      checkFrame (crcOf [0x50, 0, 0]) = .discarded .kind ∧ checkFrame (crcOf [0x10, 0, 0]) = .discarded .length ∧
      checkFrame good = .valid ⟨3, false, 1, .withdraw 1⟩ := by decide +kernel

/-- A START and a CAR written out byte by byte (R28), and what is read from them. -/
theorem test_frame_layout_witness :
    let start : List Byte := [0x23, 5, 7, 0x4C, 0x4B, 0x40, 0x07, 0x12, 0x34, 3]
    let car : List Byte := [0x3E, 0xFF, 34, 0, 0, 9, 0x80, 0, 0, 0, 0, 1, 0xFF, 0xFF, 0xFF, 0x80, 0, 0, 1, 0, 2, 0xAB, 0xCD,
      0, 3, 1, 2, 3, 4, 0x80, 0, 0xFF, 99, 0, 0, 1, 0]
    let full := fun (b : List Byte) => b ++ bytes2 (crc16 b)
    checkFrame (full start) = .valid ⟨1, true, 5, .start ⟨5000000, 7, ⟨0x1234, 3⟩⟩⟩ ∧
      checkFrame (full car) = .valid ⟨7, false, 255, .car ⟨9, 0x800000, 1, 0xFFFFFF, 0x8001, 1, 2, 0xABCD, 3, 0x01020304,
        0x8001, .spun, true, true, 99, some 256⟩⟩ ∧
      checkFrame (full [0x12, 0, 4, 2, 0, 7, 3]) = .valid ⟨1, false, 0, .call false ⟨7, 3⟩⟩ := by decide +kernel

theorem test_discard_witness :
    let s := hearing (base .offline)
    s.currentStands = true ∧ checkFrame [] = .discarded .broken ∧ (after .frameBroken s).rx.crcErrors = 1 ∧
      (after (.frameCompletion []) s).rx.crcErrors = 1 := by decide +kernel

theorem test_read_back_of_bytes_witness :
    let x : Payload := .car { report 16777215 (some 4294967295) with vx := 0x8001 }
    checkFrame (frameBytes 7 x) = .valid ⟨7, false, 1, x⟩ := by decide +kernel

theorem test_frames_not_for_the_table_witness :
    let s := hearing (base .offline)
    let t := hearing (inRace .racing 9000000)
    let bytes := fun p => frameBytes p (.withdraw 1)
    checkFrame (bytes 3) = .valid ⟨3, false, 1, .withdraw 1⟩ ∧ s.race.own = .offline ∧
      (after (.frameCompletion (bytes 3)) s).tx.lastSender = 3 ∧
      (after (.frameCompletion (bytes 0)) t).tx.phase = .disabled ∧
      (after (.frameCompletion (bytes 0)) t).race.own = .offline ∧
      (after (.frameCompletion (bytes 0)) t).events.records = [⟨.duplicateStation, 0, 4, 9999990⟩] := by
  decide +kernel

theorem test_lobby_frames_witness :
    let s := hearing (base .attract)
    let call := frameBytes 3 (.call true ⟨7, 3⟩)
    checkFrame call = .valid ⟨3, false, 1, .call true ⟨7, 3⟩⟩ ∧ (s.entry 3).state.isRace = false ∧
      (after (.frameCompletion call) s).events.records =
        [⟨.peerJoined, 3, 1, 9999990⟩, ⟨.peerEntered, 3, 3, 9999990⟩] ∧
      ((after (.frameCompletion (frameBytes 3 (.car (report 0 none)))) s).entry 3).state = .elsewhere := by
  decide +kernel

/-- A WITHDRAW from an ABSENT station and from an ENTERED one. -/
theorem test_withdraw_in_lobby_witness :
    let s := fun st => withEntry (hearing (base .attract)) 3 { Entry.initial with state := st, lobby := some ⟨7, 3⟩ }
    let hear := fun st => (after (.frameCompletion (frameBytes 3 (.withdraw 1))) (s st)).entry 3
    checkFrame (frameBytes 3 (.withdraw 1)) = .valid ⟨3, false, 1, .withdraw 1⟩ ∧ (s .absent).currentStands = true ∧
      (hear .absent).state = .present ∧ (hear .entered).state = .entered ∧
      (hear .elsewhere).presenceTimer = some 10999990 ∧ (hear .entered).lobby = some ⟨7, 3⟩ := by decide +kernel

/-- A report as old as the one held, an older one, and one from a LOST station. -/
theorem test_participant_car_witness :
    let s := fun st => withEntry (hearing (inRace .racing 9000000)) 1
      { Entry.initial with state := st, car := some ⟨carAt 9999990, 1, false, none⟩ }
    let hear := fun st age => ((after (.frameCompletion (frameBytes 1 (.car (report age none)))) (s st)).entry 1)
    (s .racing).currentStands = true ∧ checkFrame (frameBytes 1 (.car (report 1 none))) = .valid ⟨1, false, 1, .car (report 1 none)⟩ ∧
      (hear .racing 0).car = some ⟨carAt 9999990, 1, false, none⟩ ∧
      (hear .racing 1).car = some ⟨carAt 9999990, 1, false, none⟩ ∧ (hear .grid 0).state = .grid ∧
      (hear .lost 1).car = some ⟨carAt 9999989, 1, false, none⟩ ∧ (hear .lost 1).state = .racing := by decide +kernel

/-- The display after a CAR with FINISHED: blended, kept for an older report, and snapped for a LOST station. -/
theorem test_finished_car_display_witness :
    let s := fun st sample => withEntry (hearing (inRace .racing 9000000)) 1 { Entry.initial with
      state := st, car := some ⟨{ carAt sample with x := 100 }, 1, false, none⟩
      display := ⟨8, 0, 0, 0, 0, 0, 0, 0, 0, false, true⟩ }
    let hear := fun st sample => ((after (.frameCompletion (frameBytes 1 (.car (report 0 (some 1000))))) (s st sample)).entry 1).display
    (hear .racing 9999990).cx = 108 ∧ (hear .racing 9999991).cx = 8 ∧ (hear .lost 9999991).cx = 0 ∧
      (hear .lost 9999991).snapped = true ∧ (hear .racing 9999990).snapped = false := by decide +kernel

theorem test_finish_witness :
    let s := hearing (inRace .racing 9000000)
    let c := report 0 (some 1000)
    checkFrame (frameBytes 1 (.car c)) = .valid ⟨1, false, 1, .car c⟩ ∧ (s.entry 1).finish = none ∧
      0 < ((9999990 : Instant) - 1000 - 9000000).toInt ∧
      reached s.tick (9999990 - 1000 + BitVec.ofNat 32 (s.settings.finishGrace * 1000000) + 250000) = false ∧
      ((after (.frameCompletion (frameBytes 1 (.car c))) s).entry 1).finish = some 998990 := by decide +kernel

/-- A finish heard from each race state; a close by all-done, by a grace end already reached, and none. -/
theorem test_finish_of_each_state_witness :
    let car := frameBytes 1 (.car (report 0 (some 1000)))
    let s := fun own st fin => withEntry (hearing (inRace own 9000000)) 1 { Entry.initial with state := st, finish := fin }
    let hear := fun t => after (.frameCompletion car) t
    let done := fun fin => withEntry (s .finished .racing fin) 2 { Entry.initial with state := .lost }
    let graced := after (.frameCompletion (frameBytes 1 (.car (report 0 (some 25000000)))))
      (hearing (inRace .racing (-30000000)))
    checkFrame car = .valid ⟨1, false, 1, .car (report 0 (some 1000))⟩ ∧
      (hear (s .racing .grid none)).events.records = [] ∧ ((hear (s .racing .grid none)).entry 1).state = .grid ∧
      (hear (s .racing .lost none)).events.records.map EventRecord.kind = [.peerReturned, .peerFinished] ∧
      (hear (s .racing .lost (some 5))).events.records.map EventRecord.kind = [.peerReturned] ∧
      (hear (s .racing .finished none)).events.records = [] ∧
      ((hear (s .racing .finished none)).entry 1).finish = some 998990 ∧
      ((hear (s .results .racing none)).entry 1).finish = none ∧
      ((hear (s .results .racing none)).entry 1).state = .finished ∧
      (hear (s .finished .racing none)).race.own = .finished ∧ (hear (done none)).race.own = .results ∧
      (hear (done none)).events.records.map EventRecord.kind = [.peerFinished, .resultsFinal] ∧
      graced.race.own = .results ∧ graced.events.records.map EventRecord.kind = [.peerFinished, .resultsFinal] := by
  decide +kernel

/-- The last participant still running withdraws: all-done in FINISHED, and nothing more in RACING. -/
theorem test_withdraw_witness :
    let s := fun own => withEntry (hearing (inRace own 9000000)) 2 { Entry.initial with state := .lost }
    let hear := fun own => after (.frameCompletion (frameBytes 1 (.withdraw 1))) (s own)
    ((s .finished).entry 1).state.isRace = true ∧ (hear .finished).race.own = .results ∧
      (hear .racing).race.own = .racing ∧ (hear .racing).events.records = [⟨.peerRetired, 1, 1, 9999990⟩] ∧
      (hear .finished).events.records = [⟨.peerRetired, 1, 1, 9999990⟩, ⟨.resultsFinal, 0, 1, 10000000⟩] ∧
      (hear .finished).race.results = some ((hear .finished).resultsFor none) ∧
      (after (.frameCompletion (frameBytes 1 (.withdraw 1))) (hearing (inRace .finished 9000000))).race =
        (inRace .finished 9000000).race := by
  decide +kernel

/-- A CALL from a participant, which retires it, and frames from a RETIRED one. -/
theorem test_call_retires_witness :
    let s := fun st => withEntry (hearing (inRace .racing 9000000)) 1 { Entry.initial with state := st }
    let call := frameBytes 1 (.call true ⟨9, 2⟩)
    let hear := fun st b => after (.frameCompletion b) (s st)
    checkFrame call = .valid ⟨1, false, 1, .call true ⟨9, 2⟩⟩ ∧ (s .retired).currentStands = true ∧
      (hear .racing call).events.records = [⟨.peerRetired, 1, 0, 9999990⟩] ∧
      ((hear .racing call).entry 1).lobby = some ⟨9, 2⟩ ∧ ((hear .grid call).entry 1).state = .retired ∧
      ((hear .retired call).entry 1).lobby = some ⟨9, 2⟩ ∧ (hear .retired call).events.records = [] ∧
      ((hear .retired (frameBytes 1 (.withdraw 1))).entry 1).state = .retired ∧
      ((hear .retired (frameBytes 1 (.car (report 0 none)))).entry 1).car = none := by decide +kernel

/-! ## Agreeing on a start -/

/-- Leads of 1,000,000 and 999,999, and a mask without this station. -/
theorem test_start_in_entered_witness :
    let s := hearing ((base .entered).setRace { (base .entered).race with entry := some ⟨7, 3⟩ })
    let hear := fun lead mask => after (.frameCompletion (frameBytes 1 (.start (proposal lead mask)))) s
    checkFrame (frameBytes 1 (.start (proposal 1000000 3))) = .valid ⟨1, false, 1, .start (proposal 1000000 3)⟩ ∧
      s.race.entry = some (proposal 1000000 3).race ∧ inMask 3 s.own = true ∧ inMask 2 s.own = false ∧
      (hear 1000000 3).race.own = .countdown ∧ (hear 1000000 3).race.greenTimer = some 10999990 ∧
      (hear 999999 3).events.records.getLast? = some ⟨.startLate, 1, 1, 9999990⟩ ∧
      (hear 1000000 2).events.records.getLast? = some ⟨.startMissed, 1, 2, 9999990⟩ := by decide +kernel

/-- The lock of a START adopted with a lead of 1,000,000 is already reached. -/
theorem test_adopted_lamps_witness :
    let s := hearing ((base .entered).setRace { (base .entered).race with entry := some ⟨7, 3⟩ })
    let hear := fun lead => after (.frameCompletion (frameBytes 1 (.start (proposal lead 3)))) s
    (hear 1000000).race.lockTimer = none ∧ (hear 1000000).lamp.greenTimer = some 10999990 ∧
      (hear 1000000).lamp.stepTimers.get 0 = none ∧ (hear 1000000).lamp.stepTimers.get 3 = some 10999990 ∧
      (hear 1000000).lamp.pattern (hear 1000000).settings = 7 := by decide +kernel

/-- In COUNTDOWN: too late after the lock and by the lead; a tie of 2,000 µs won and lost; a replacement without this
station. -/
theorem test_start_in_countdown_witness :
    let s := fun (proposer : Station) locked =>
      let t := hearing (inRace .countdown 12001990)
      t.setRace { t.race with record := some ⟨proposer, 12001990, locked, ⟨7, 3⟩, 7⟩ }
    let hear := fun p locked (lead : BitVec 24) mask =>
      after (.frameCompletion (frameBytes 1 (.start (proposal lead mask)))) (s p locked)
    interval (9999990 + 2000000) 12001990 = 2000 ∧ (hear 2 false 2000000 7).race.greenTimer = some 11999990 ∧
      (hear 1 false 2000000 7).race.greenTimer = none ∧ (hear 1 false 1999999 7).race.greenTimer = some 11999989 ∧
      (hear 2 true 2000000 7).events.records = [⟨.startLate, 1, 2, 9999990⟩] ∧
      (hear 2 false 999999 7).events.records = [⟨.startLate, 1, 1, 9999990⟩] ∧
      (hear 1 false 1999999 2).race.own = .entered := by decide +kernel

/-- A START too late in each of the race states after COUNTDOWN. -/
theorem test_start_late_in_race_witness :
    let hear := fun own => after (.frameCompletion (frameBytes 1 (.start (proposal 5000000 7)))) (hearing (inRace own 9000000))
    (inRace .results 9000000).currentStands = true ∧
      (hear .racing).events.records = [⟨.startLate, 1, 2, 9999990⟩] ∧
      (hear .finished).events.records = [⟨.startLate, 1, 2, 9999990⟩] ∧
      (hear .results).events.records = [⟨.startLate, 1, 2, 9999990⟩] ∧ (hear .results).race.own = .results := by
  decide +kernel

/-- A START in ATTRACT, and for another race in ENTERED and in COUNTDOWN: the race stays, the sender is ELSEWHERE unless it
is a participant. -/
theorem test_start_ignored_witness :
    let s := fun own st => withEntry (hearing (inRace own 20000000)) 1
      { Entry.initial with state := st, lastHeard := some 4, presenceTimer := some 5 }
    let hear := fun (t : State) => after (.frameCompletion (frameBytes 1 (.start ⟨2000000, 3, ⟨8, 3⟩⟩))) t
    let lobby := fun own st => (s own st).setRace { (base own).race with entry := some ⟨7, 3⟩ }
    checkFrame (frameBytes 1 (.start ⟨2000000, 3, ⟨8, 3⟩⟩)) = .valid ⟨1, false, 1, .start ⟨2000000, 3, ⟨8, 3⟩⟩⟩ ∧
      ((hear (lobby .attract .present)).entry 1).state = .elsewhere ∧
      ((hear (lobby .attract .absent)).events.records = [⟨.peerJoined, 1, 2, 9999990⟩]) ∧
      ((hear (lobby .entered .entered)).entry 1).state = .elsewhere ∧
      ((hear (lobby .entered .entered)).entry 1).presenceTimer = some 10999990 ∧
      (hear (lobby .entered .entered)).race = (lobby .entered .entered).race ∧
      (s .countdown .grid).race.record.map RaceRecord.locked = some false ∧
      ((hear (s .countdown .grid)).entry 1).state = .grid ∧
      ((hear (s .countdown .grid)).entry 1).presenceTimer = some 5 ∧
      ((hear (s .countdown .elsewhere)).entry 1).state = .elsewhere ∧
      (hear (s .countdown .present)).race = (s .countdown .present).race ∧
      (hear (s .countdown .present)).events.records = [] := by decide +kernel

/-- A replacement with a LOST peer outside its mask, one whose sender leaves itself out, one whose lock is already reached,
and a tie that leaves this station out. -/
theorem test_start_replaces_witness :
    let s := fun green =>
      let t := withEntry (hearing (inRace .countdown green)) 2 { Entry.initial with state := .lost }
      t.setRace { t.race with record := some ⟨2, green, false, ⟨7, 3⟩, 7⟩ }
    let hear := fun green lead mask => after (.frameCompletion (frameBytes 1 (.start (proposal lead mask)))) (s green)
    interval (9999990 + 2000000) 11999990 = 0 ∧
      (hear 20000000 2000000 3).events.records = [⟨.startReplaced, 1, 3, 9999990⟩, ⟨.peerGone, 2, 7, 9999990⟩] ∧
      (hear 20000000 2000000 3).race.lockTimer = some 10999990 ∧ ((hear 20000000 2000000 3).entry 2).state = .absent ∧
      ((hear 20000000 2000000 3).entry 1).state = .grid ∧ ((hear 20000000 2000000 1).entry 1).state = .elsewhere ∧
      ((hear 20000000 2000000 1).entry 1).presenceTimer = some 10999990 ∧
      ((hear 20000000 1000000 3).race.record.map RaceRecord.locked) = some true ∧
      (hear 20000000 1000000 3).race.lockTimer = none ∧
      (hear 11999990 2000000 6).race.own = .entered ∧
      (hear 11999990 2000000 6).events.records = [⟨.startMissed, 1, 6, 9999990⟩, ⟨.peerGone, 2, 7, 9999990⟩] ∧
      ((hear 11999990 2000000 6).entry 2).state = .elsewhere ∧ (hear 11997989 2000000 3).events.records = [] ∧
      (hear 11997989 2000000 3).race.greenTimer = none := by decide +kernel

/-! ## Sending -/

/-- The work of a start opportunity in order: the control queue, a CAR, a CALL; and a field too small for a START. -/
theorem test_start_opportunity_witness :
    let s := openLine (base .attract)
    let car := openLine (inRace .racing 9000000)
    let car := car.setTx { car.tx with slot := ⟨.unsent (carAt 9990000), false, true⟩ }
    let start := openLine ((base .entered).setRace { (base .entered).race with entry := some ⟨7, 3⟩, proposal := .pending })
    let start := start.setTx { start.tx with queue := [.start] }
    let alone := start.setLoader { start.loader with settings := { start.settings with minField := 1 } }
    let kind := fun (s : State) => (after .startOpportunity s).tx.inFlight.map fun g => g.frame.payload.kindCode
    s.currentStands = true ∧ s.lineOpen = true ∧ s.workPending = true ∧ kind s = some 1 ∧ kind car = some 3 ∧
      fieldCount alone = 1 ∧ kind alone = some 2 ∧ fieldCount start < start.settings.minField ∧
      (after .startOpportunity start).events.records = [⟨.lobbyExtended, 0, 1, 10000000⟩] ∧
      after .startOpportunity (openLine (base .offline)) = openLine (base .offline) := by decide +kernel

/-- A CAR and a resend whole: at the ends of the sample age, after a finish, with DNF and with the ceiling mark. -/
theorem test_departing_car_witness :
    let v : CarValues := ⟨9990000, 1, 2, 3, 4, 5, 6, 7, 8, 9, 10, .airborne⟩
    let s := fun own slot fin mark =>
      let t := withEntry (openLine (inRace own 9000000)) 0 { Entry.initial with finish := fin }
      (t.setTx { t.tx with slot := slot }).setRace { t.race with
        lapCount := 2, ceilingMark := mark, results := if own = .results then some (t.resultsFor none) else none }
    let car := fun t => (after .startOpportunity t).tx.inFlight.map fun g => g.frame.payload
    let full := fun age dnf resend finish => some (Payload.car ⟨age, 1, 2, 3, 4, 5, 6, 7, 8, 9, 10, .airborne, dnf, resend, 2, finish⟩)
    (s .racing ⟨.unsent v, false, true⟩ none false).carEligible = true ∧
      (s .results ⟨.sent v, true, false⟩ none false).resendEligible = true ∧
      car (s .racing ⟨.unsent v, false, true⟩ none false) = full 10000 false false none ∧
      car ((s .racing ⟨.unsent v, false, true⟩ none false).setTick (9990000 + 16777214)) = full 16777214 false false none ∧
      car ((s .racing ⟨.unsent v, false, true⟩ none false).setTick (9990000 + 16777215)) = full 16777215 false false none ∧
      car ((s .racing ⟨.unsent v, false, true⟩ none false).setTick (9990000 + 16777216)) = full 16777215 false false none ∧
      car (s .finished ⟨.sent v, true, false⟩ (some 400000) false) = full 10000 false true (some 600000) ∧
      car (s .results ⟨.sent v, false, false⟩ none false) = full 10000 true true none ∧
      car (s .results ⟨.sent v, true, false⟩ (some 400000) true) = full 16777215 false true (some 4294967295) := by
  decide +kernel

/-- A START held as the current frame whose field has shrunk: with a WITHDRAW behind it, with a CALL due, and with no work. -/
theorem test_start_withdrawn_later_witness :
    let s := fun rest timer =>
      let t := openLine ((base .entered).setRace { (base .entered).race with entry := some ⟨7, 3⟩, proposal := .pending })
      t.setTx { t.tx with queue := .start :: rest, current := some ⟨.start, 3, 2⟩, phase := .backoff, callTimer := timer }
    let go := fun rest timer => after .startOpportunity (s rest timer)
    let sent := fun rest timer => (go rest timer).tx.inFlight.map fun g => g.frame.payload
    (s [] none).currentStands = true ∧ fieldCount (s [] none) < (s [] none).settings.minField ∧
      sent [.withdraw 1] none = some (.withdraw 1) ∧ (go [.withdraw 1] none).tx.queue = [.withdraw 1] ∧
      sent [] none = some (.call true ⟨7, 3⟩) ∧ sent [] (some 20000000) = none ∧
      (go [] (some 20000000)).tx.phase = .ready ∧ (go [] (some 20000000)).tx.current = none ∧
      (go [] (some 20000000)).tx.opportunity = some 10000000 ∧
      (go [] (some 20000000)).race.lobbyTimer = some 30000000 ∧ (go [] none).race.proposal = .none := by decide +kernel

theorem test_read_back_witness :
    let s := sending (base .attract) .call 0
    let e := (base .entered).setRace { (base .entered).race with entry := some ⟨7, 3⟩, proposal := .pending }
    let start := sending (e.setTx { e.tx with queue := [.start] }) .start 0
    s.tx.phase = .sending ∧ (after .readBackWhole s).tx.callTimer = some 10249000 ∧
      (after .readBackWhole s).tx.sequence = 1 ∧
      start.tx.inFlight.map (fun g => g.frame.payload) = some (.start ⟨5000000, 1, ⟨7, 3⟩⟩) ∧
      (after .readBackWhole start).race.own = .countdown ∧ (after .readBackWhole start).tx.queue = [] := by
  decide +kernel

/-- A resend whose slot was refilled, a CAR whose slot was emptied, and a CALL after the lobby was left. -/
theorem test_read_back_source_gone_witness :
    let slot := fun (s : State) x changed => s.setTx { s.tx with slot := ⟨x, true, changed⟩ }
    let resend := fun changed => sending (slot (base .results) (.unsent (carAt 9990000)) changed) .resend 0
    let emptied := sending (slot (base .attract) .empty true) .car 0
    let call := sending (base .countdown) .call 0
    (after .readBackWhole (resend true)).tx.slot.state = .unsent (carAt 9990000) ∧
      (after .readBackWhole (resend false)).tx.slot.state = .sent (carAt 9990000) ∧
      (after .readBackWhole (resend true)).tx.resendTimer = some 10249000 ∧
      (after .readBackWhole emptied).tx.slot.state = .empty ∧ (after .readBackWhole emptied).tx.spacingTimer = none ∧
      (after .readBackWhole call).tx.callTimer = none ∧ (after .readBackWhole call).tx.sequence = 1 := by decide +kernel

/-- Another START adopted while the own one is SENDING, and the own one then read back in COUNTDOWN: ignored with a later
green, a replacement with one earlier by more than 2,000 µs (R83, R91, R92). A frame with the own number, and a frame
broken, change nothing while SENDING, and one that fails a check counts. -/
theorem test_start_heard_while_sending_witness :
    let e := (base .entered).setRace { (base .entered).race with entry := some ⟨7, 3⟩, proposal := .pending }
    let own := hearing (sending (e.setTx { e.tx with queue := [.start] }) .start 0)
    let adopted := fun lead => after (.frameCompletion (frameBytes 1 (.start (proposal lead 3)))) own
    let back := fun lead => after .readBackWhole (adopted lead)
    own.tx.phase = .sending ∧ (adopted 4000000).race.own = .countdown ∧ (adopted 4000000).tx.phase = .sending ∧
      (adopted 4000000).tx.inFlight = own.tx.inFlight ∧ (adopted 4000000).tx.current = none ∧
      (adopted 4000000).tx.queue = [] ∧ (adopted 4000000).race.proposal = .none ∧
      own.tx.inFlight.map (fun g => (g.departure, g.frame.payload)) = some (9999000, .start ⟨5000000, 1, ⟨7, 3⟩⟩) ∧
      (back 4000000).race.record = (adopted 4000000).race.record ∧ (back 4000000).tx.sequence = 1 ∧
      (back 6000000).race.record = some ⟨0, 14999000, false, ⟨7, 3⟩, 1⟩ ∧
      (back 6000000).events.records =
        [⟨.peerJoined, 1, 2, 9999990⟩, ⟨.startAdopted, 1, 3, 9999990⟩, ⟨.startReplaced, 0, 1, 9999000⟩] ∧
      after (.frameCompletion (frameBytes 0 (.call false ⟨0, 0⟩))) own = own ∧ after .frameBroken own = own ∧
      (after (.frameCompletion []) own).rx.crcErrors = 1 := by decide +kernel

/-- A frame still read back across a RESTART: at each of the three rows that end it. -/
theorem test_crossing_frame_witness :
    let s := after .restart (sending (base .attract) .call 0)
    let s := s.setCmd { s.cmd with unit := .idle }
    s.tx.crossing = true ∧ s.currentStands = true ∧ s.tx.phase = .ready ∧
      (after .readBackWhole s).tx.sequence = 0 ∧ (after .readBackWhole s).tx.crossing = false ∧
      (after (.frameCompletion (frameBytes 0 (.call false ⟨0, 0⟩))) (hearing s)).tx.framesSent = 0 ∧
      (after .collision s).tx.collisions = 1 ∧ (after .collision s).tx.backoffPlace = s.tx.backoffPlace := by
  decide +kernel

/-- The seventh collision waits, the eighth gives the frame up. -/
theorem test_collision_witness :
    let s := fun n => sending ((base .offline).setTx { (base .offline).tx with queue := [.withdraw 1] }) (.withdraw 1) n
    (s 6).sourceExists (.withdraw 1) = true ∧ (s 6).tx.opportunity = none ∧
      (after .collision (s 6)).tx.phase = .backoff ∧ (after .collision (s 7)).tx.queue = [] ∧
      (after .collision (s 7)).events.records = [⟨.txDropped, 0, 4, 10000000⟩] := by decide +kernel

/-- A START removed while SENDING, one that has left the queue, and a resend given up after its slot was refilled. -/
theorem test_lost_at_collision_witness :
    let e := (base .entered).setRace { (base .entered).race with entry := some ⟨7, 3⟩, proposal := .pending }
    let e := sending (e.setTx { e.tx with queue := [.start] }) .start 0
    let removed := after .cancelEntry e
    let gone' := e.setTx { e.tx with queue := [] }
    let r := sending ((base .results).setTx { (base .results).tx with slot := ⟨.unsent (carAt 9990000), true, true⟩ }) .resend 7
    removed.tx.phase = .sending ∧ removed.tx.current = none ∧ removed.tx.inFlight = e.tx.inFlight ∧
      removed.tx.queue = [] ∧ (after .collision removed).tx.phase = .ready ∧
      (after .collision removed).tx.drops = 0 ∧ (after .collision gone').tx.current = none ∧
      (after .collision r).tx.slot.isUnsent = true ∧ (after .collision r).tx.resendTimer = some 10250000 ∧
      (after .collision r).events.records = [⟨.txDropped, 0, 3, 10000000⟩] := by decide +kernel

theorem test_transmitter_timers_witness :
    let s := (base .racing).setTx { (base .racing).tx with
      stuckWatch := some 10000000, callTimer := some 10000000, spacingTimer := some 10000000
      resendTimer := some 10000000 }
    let off := s.setTx { s.tx with phase := .disabled }
    reached s.tick 10000000 = true ∧ s.currentStands = true ∧ (after .stuckWatchExpiry s).tx.phase = .stuck ∧
      (after .stuckWatchExpiry off).tx.phase = .disabled ∧ (after .callCadenceTimerExpiry s).tx.callTimer = none ∧
      (after .reportSpacingTimerExpiry s).tx.spacingTimer = none ∧
      (after .resendTimerExpiry s).tx.resendTimer = none := by decide +kernel

/-- Every event that makes a frame eligible, with no work pending before: with the line open the frame departs at that event
with the tick as its stamp, with the line BUSY it waits. -/
theorem test_departs_at_event_witness :
    let slot := fun (s : State) x => s.setTx { s.tx with slot := ⟨x, false, false⟩ }
    let set := fun (s : State) (f : Transmitter → Transmitter) => s.setTx (f s.tx)
    let frames := fun (s : State) => { s with
      frame := ⟨true, some true, some true, some true, .present, 5, [⟨5, 9980000⟩], none, some 10080000, some 9980000, true⟩ }
    let laps := fun (s : State) => s.setRace { s.race with lapCount := 2, lapList := [1000000, 1980000] }
    let entered := fun s => State.setRace s { s.race with entry := some ⟨7, 3⟩, lobbyTimer := some 10000000 }
    let alone := fun (s : State) => s.setLoader { s.loader with settings := { s.settings with minField := 1 } }
    let call := fun own => set (base own) fun t => { t with callTimer := some 20000000 }
    let car := carAt 9990000
    let cases : List (Instr × State × Nat) :=
      [(.callCadenceTimerExpiry, set (base .attract) fun t => { t with callTimer := some 10000000 }, 1),
        (.reportSpacingTimerExpiry, set (slot (base .racing) (.unsent car)) fun t => { t with spacingTimer := some 10000000 }, 3),
        (.resendTimerExpiry, set (slot (base .results) (.sent car)) fun t => { t with resendTimer := some 10000000 }, 3),
        (.lobbyTimerExpiry, alone (entered (call .entered)), 2), (.goOnline, base .offline, 1),
        (.goOffline, inRace .racing 9000000, 4), (.enter, withArguments (call .attract) [7, 3], 1),
        (.cancelEntry, call .entered, 1), (.postCar, withArguments (frames (inRace .racing 9000000)) [5], 3),
        (.lap, withArguments (frames (laps (slot (inRace .racing 7000000) (.sent car)))) [5, 0], 3),
        (.quit, inRace .finished 9000000, 4), (.ackResults, inRace .results 9000000, 1),
        (.limitCloseTimerExpiry, (slot (inRace .racing 9000000) (.sent car)).setRace
          { (inRace .racing 9000000).race with limitTimer := some 10000000 }, 3)]
    (cases.all fun (c, s, kind) =>
      !s.workPending && s.tx.phase == .ready && s.currentStands && !s.lineOpen && (openLine s).lineOpen &&
        !(openLine s).workPending &&
        (after c (openLine s)).tx.inFlight.map (fun g => (g.departure, g.frame.payload.kindCode)) == some (10000000, kind) &&
        (after c (openLine s)).tx.phase == .sending && (after c s).tx.inFlight.isNone && (after c s).tx.phase == .ready) =
      true := by decide +kernel

/-! ## The Peer Table's timers -/

theorem test_presence_and_silence_witness :
    let s := withEntry (base .attract) 3 { Entry.initial with state := .elsewhere, presenceTimer := some 10000000 }
    let s := s.setPeers { s.peers with silenceTimer := some 10000000, heard := true }
    let quiet := s.setPeers { s.peers with heard := false }
    s.currentStands = true ∧ (s.entry 3).presenceTimer = some 10000000 ∧
      (after (.presenceTimerExpiry 3) s).events.records = [⟨.peerGone, 3, 3, 10000000⟩] ∧
      (after .silenceTimerExpiry s).events.records = [⟨.linkSilent, 0, 1, 10000000⟩] ∧
      (after .silenceTimerExpiry quiet).peers.silent = false := by decide +kernel

theorem test_lost_timer_witness :
    let s := fun own => withEntry (withEntry (inRace own 9000000) 1
      { Entry.initial with state := .finished, lostTimer := some 10000000 }) 2 { Entry.initial with state := .retired }
    ((s .racing).entry 1).lostTimer = some 10000000 ∧
      (after (.lostTimerExpiry 1) (s .racing)).events.records = [⟨.peerLost, 1, 0, 10000000⟩] ∧
      (after (.lostTimerExpiry 1) (s .finished)).race.own = .results ∧
      (after (.lostTimerExpiry 1) (s .finished)).events.records =
        [⟨.peerLost, 1, 0, 10000000⟩, ⟨.resultsFinal, 0, 1, 10000000⟩] ∧
      (let u := withEntry (s .finished) 2 { Entry.initial with state := .grid }
       (after (.lostTimerExpiry 1) u).race = u.race ∧
         (after (.lostTimerExpiry 1) u).events.records = [⟨.peerLost, 1, 0, 10000000⟩]) := by decide +kernel

/-- The window at gaps of 15 and 16. -/
theorem test_window_witness :
    (List.replicate 16 true).length = 16 ∧ (16 - 0 - 1 : Byte).toNat = 15 ∧
      (shiftWindow (List.replicate 16 true) (some 0) 16).count true = 1 ∧
      (shiftWindow (List.replicate 16 true) (some 0) 15).count true = 2 := by decide +kernel

/-! ## The Race Sequencer's timers -/

theorem test_lobby_timer_witness :
    let s := (base .entered).setRace { (base .entered).race with entry := some ⟨7, 3⟩, lobbyTimer := some 10000000 }
    let pending := s.setRace { s.race with proposal := .pending }
    let alone := s.setLoader { s.loader with settings := { s.settings with minField := 1 } }
    s.race.lobbyTimer = some 10000000 ∧ fieldCount s < s.settings.minField ∧ alone.settings.minField ≤ fieldCount alone ∧
      (after .lobbyTimerExpiry s).events.records = [⟨.lobbyExtended, 0, 1, 10000000⟩] ∧
      (after .lobbyTimerExpiry pending).race.lobbyTimer = some 30000000 ∧
      (after .lobbyTimerExpiry alone).tx.queue = [.start] := by decide +kernel

/-- A full control queue with no control frame current, and with its head current. -/
theorem test_overflows_witness :
    let full := fun cur => (base .attract).setTx { (base .attract).tx with
      queue := [.start, .withdraw 1, .withdraw 2, .withdraw 3], current := cur }
    overflows (full none) .start [.withdraw 1, .withdraw 2, .withdraw 3] ∧
      overflows (full (some ⟨.start, 1, 0⟩)) (.withdraw 1) [.start, .withdraw 2, .withdraw 3] := by
  intro full
  exact ⟨⟨_, _, _, rfl, rfl, .inr ⟨fun ⟨_, h, _⟩ => (nomatch h), rfl, rfl⟩⟩,
    ⟨_, _, _, rfl, rfl, .inl ⟨⟨_, rfl, .inl rfl⟩, rfl, rfl⟩⟩⟩

/-- A full control queue with and without a current control frame; a lobby window with the own START the frame that
leaves; and QUIT from a race with a LOST peer. -/
theorem test_control_overflow_witness :
    let fill := fun (s : State) (q : List ControlFrame) (cur : Option Current) => s.setTx { s.tx with
      queue := q, current := cur, phase := .backoff }
    let s := (base .entered).setRace { (base .entered).race with entry := some ⟨7, 3⟩, lobbyTimer := some 10000000 }
    let s := s.setLoader { s.loader with settings := { s.settings with minField := 1 } }
    let w := fun (n : Byte) => ControlFrame.withdraw n
    let all := [w 1, w 2, w 3, w 4]
    let race := fun own => withEntry (fill (inRace own 9000000) all (some ⟨.withdraw 1, 1, 0⟩)) 2
      { Entry.initial with state := .lost }
    (after .lobbyTimerExpiry (fill s all none)).tx.queue = [w 2, w 3, w 4, .start] ∧
      (after .lobbyTimerExpiry (fill s all none)).events.records = [⟨.txDropped, 0, 4, 10000000⟩] ∧
      (after .lobbyTimerExpiry (fill s all (some ⟨.withdraw 1, 1, 0⟩))).tx.queue = [w 1, w 3, w 4, .start] ∧
      (after .lobbyTimerExpiry (fill s all.tail none)).tx.queue = all.tail ++ [.start] ∧
      ((fill (s.setRace { s.race with proposal := .pending }) (.start :: all.tail) none).placeControl (w 5)).race.proposal =
        .none ∧
      (after .quit (race .racing)).tx.queue = [w 1, w 3, w 4, w 1] ∧ (after .quit (race .racing)).tx.drops = 1 ∧
      (after .quit (race .racing)).events.records = [⟨.txDropped, 0, 4, 10000000⟩, ⟨.peerGone, 2, 7, 10000000⟩] ∧
      (after .ackResults (race .results)).events.records = [⟨.peerGone, 2, 7, 10000000⟩] ∧
      (after .goOffline (race .racing)).events.records = [⟨.txDropped, 0, 4, 10000000⟩] := by decide +kernel

theorem test_lock_green_ceiling_witness :
    let s := inRace .countdown 10000000
    let s := s.setRace { s.race with lockTimer := some 9000000, greenTimer := some 10000000 }
    let r := inRace .results 10000000
    let r := r.setRace { r.race with ceilingTimer := some 10000000 }
    s.currentStands = true ∧ (after .lockTimerExpiry s).race.record.map RaceRecord.locked = some true ∧
      (after .greenTimerExpiry s).events.records = [⟨.green, 0, 7, 10000000⟩] ∧
      (after .greenTimerExpiry s).race.limitTimer = some 610250000 ∧
      (after .resultsCeilingTimerExpiry r).race.ceilingMark = true := by decide +kernel

/-- A finish one microsecond beyond the grace end, and one at it. -/
theorem test_close_witness :
    let s := inRace .racing 1000000
    let s := s.setRace { s.race with
      earliest := some 5, graceTimer := some 10000000, limitTimer := some 10000000 }
    let s := withEntry (withEntry s 1 { Entry.initial with state := .finished, finish := some 20000005 }) 2
      { Entry.initial with state := .finished, finish := some 20000006 }
    (s.race.graceTimer = some 10000000 ∧ s.race.earliest = some 5) ∧
      ((after .graceCloseTimerExpiry s).race.results.map fun l => l.map fun r => (r.station, r.category)) =
        some [(1, .finished), (0, .dnf), (2, .dnf)] ∧
      (after .limitCloseTimerExpiry s).events.records.map EventRecord.kind = [.raceExpired, .resultsFinal] := by
  decide +kernel

/-- A best lap from the middle of the list, and records of a station with a car record and of one without. -/
theorem test_results_list_witness :
    let s := (inRace .finished 5000000)
    let s := s.setRace { s.race with lapCount := 3, lapList := [1500000, 2500000, 4000000] }
    let s := withEntry (withEntry s 0 { Entry.initial with finish := some 4000000 }) 1
      { Entry.initial with state := .racing, car := some ⟨{ carAt 9990000 with g := 7 }, 2, false, none⟩ }
    ((s.resultsFor none).map fun r => (r.station, r.category, r.laps, r.bestLap)) =
        [(0, .finished, 3, some 1000000), (1, .dnf, 2, none), (2, .dnf, 0, none)] ∧
      lapTime s.race.lapList 0 = 1500000 ∧ lapTime s.race.lapList 2 = 1500000 ∧
      rankOf (s.resultsFor none) 0 = 1 ∧ rankOf (s.resultsFor none) 2 = 3 ∧ rankOf (s.resultsFor none) 7 = 0 := by
  decide +kernel

/-! ## Lamps -/

theorem test_lamps_witness :
    let s := base .countdown
    let l := s.lamp.schedule s.settings 9999999 10000000
    let s := s.setLamp { l with stepTimers := l.stepTimers.set 3 (some 10000000), blinkTimer := some 10000000, blinkPhase := 7 }
    let green := after .lampGreenTimerExpiry s
    let hold := (green.setTick 12000000)
    s.lamp.stepTimers.get 3 = some 10000000 ∧ s.lamp.greenTimer = some 10000000 ∧ s.pinLevel 2 = true ∧
      (after (.lampStepTimerExpiry 3) s).pinLevel 3 = true ∧ green.lamp.holdTimer = some 12000000 ∧
      green.pinLevel 3 = true ∧ (after .holdTimerExpiry hold).lamp.program = .dark ∧
      (after .blinkTimerExpiry s).lamp.blinkPhase = 0 ∧ (after .blinkTimerExpiry s).lamp.blinkTimer = some 10062500 := by
  decide +kernel

/-- Two steps at one instant, of which the later in the program governs, and the pattern of each program. -/
theorem test_governing_step_witness :
    let steps : Four Instant := ⟨8000000, 9000000, 9000000, 12000000⟩
    let t := Settings.factory
    let l := (base .countdown).lamp
    let hit := fun k => decide (k = (0 : Pin)) || decide (k = 1) || decide (k = 2)
    let shown := fun g => { l with program := .scheduled 12000000 steps g }
    governingStep steps hit = some 2 ∧ governingStep steps (fun _ => false) = none ∧ (shown (some 2)).pattern t = 7 ∧
      governingAt t 12000000 steps 7999999 = none ∧ governingAt t 12000000 steps 9000000 = some 2 ∧
      governingAt t 12000000 steps 12000000 = some 3 ∧
      governingAt { t with greenHold := 0 } 12000000 steps 12000000 = some 2 ∧
      (shown none).pattern t = 0 ∧ l.pattern t = 0 ∧
      ({ l with program := .hold 12000000 8 14000000 } : LampUnit).pattern t = 8 ∧
      (l.schedule t 10000000 13000000).pattern t = 1 ∧ (l.schedule t 9999999 13000000).pattern t = 0 ∧
      (l.schedule t 10000000 13000000).stepTimers = ⟨none, some 11000000, some 12000000, some 13000000⟩ := by
  decide +kernel

/-- Two steps at one instant: whichever expires first, the later in the program governs at once and after both (R152,
R154), and before it the earlier step shows. -/
theorem test_steps_at_one_instant_witness :
    let steps : Four LampStep := ⟨⟨3000, 1⟩, ⟨2000, 2⟩, ⟨2000, 4⟩, ⟨0, 8⟩⟩
    let s := (base .countdown).setLoader { (base .countdown).loader with
      settings := { Settings.factory with lampSteps := steps } }
    let s := s.setLamp (s.lamp.schedule s.settings 9000000 12000000)
    let one := fun i => after (.lampStepTimerExpiry i) s
    let both := fun i j => after (.lampStepTimerExpiry j) (one i)
    let pattern := fun (u : State) => u.lamp.pattern u.settings
    s.lamp.stepTimers = ⟨none, some 10000000, some 10000000, some 12000000⟩ ∧ pattern s = 1 ∧ pattern (one 1) = 4 ∧
      pattern (one 2) = 4 ∧ pattern (both 1 2) = 4 ∧ pattern (both 2 1) = 4 ∧
      (both 1 2).lamp.stepTimers = ⟨none, none, none, some 12000000⟩ := by decide +kernel

/-- With a green hold of 0 the pins go from the last countdown pattern straight to off, whichever of the step at green and
green itself comes first; with a longer one the step at green shows (R155). -/
theorem test_green_hold_of_zero_witness :
    let s := fun hold =>
      let s := (base .countdown).setLoader { (base .countdown).loader with
        settings := { Settings.factory with greenHold := hold } }
      s.setLamp ((s.lamp.schedule s.settings 9999999 10000000).atStep s.settings 2 9999999)
    let pattern := fun (u : State) => u.lamp.pattern u.settings
    let step := fun hold => after (.lampStepTimerExpiry 3) (s hold)
    (s 0).lamp.stepTimers.get 3 = some 10000000 ∧ pattern (s 0) = 7 ∧ pattern (step 0) = 7 ∧
      (step 0).lamp.stepTimers.get 3 = none ∧ pattern (after .lampGreenTimerExpiry (step 0)) = 0 ∧
      (after .lampGreenTimerExpiry (s 0)).lamp = (after .lampGreenTimerExpiry (step 0)).lamp ∧ pattern (step 1) = 8 ∧
      pattern (after .lampGreenTimerExpiry (s 1)) = 8 := by decide +kernel

/-- Of two reached steps that share the latest instant the later in the program governs, the earlier does not (R152). -/
theorem test_governs_witness :
    governs ⟨8000000, 9000000, 9000000, 12000000⟩ (fun k => decide (k ≠ (3 : Pin))) 2 ∧
      ¬ governs ⟨8000000, 9000000, 9000000, 12000000⟩ (fun k => decide (k ≠ (3 : Pin))) 1 := by
  unfold governs
  decide +kernel

/-- A pin of each function, in each condition of the link. -/
theorem test_pins_witness :
    let s := fun f own phase =>
      let t := base own
      (t.setLoader { t.loader with settings := { t.settings with functions := Four.replicate f } }).setTx
        { t.tx with phase := phase }
    (base .attract).cmd.unit ≠ .loading ∧ (s .link .offline .ready).pinLevel 0 = false ∧
      (s .link .attract .ready).pinLevel 0 = true ∧ (s .link .attract .stuck).pinLevel 0 = true ∧
      (s .lamp .attract .disabled).pinLevel 0 = true ∧ (s .plain .attract .ready).pinLevel 0 = false ∧
      State.reset.pinLevel 0 = false := by decide +kernel

/-! ## The game port -/

theorem test_codes_witness :
    let busy := (base .attract).setCmd { CommandUnit.initial with unit := .busy .ok [1, 2] 9999990 }
    busy.cmd.unit ≠ .idle ∧ (after .lap busy).cmd.lost = true ∧ (after (.commandLost 99) busy).cmd.lost = true ∧
      (after (.portWrite 0x020 9) busy).cmd.lost = true ∧ (after .commandCompletion busy).cmd.replyLength = 2 ∧
      (after (.unknownCommand 17) (base .attract)).cmd.unit = .busy .badArgument [] 10000000 ∧
      (after (.unknownCommand 0) (base .attract)).cmd.unit = .busy .badArgument [] 10000000 ∧
      (after (.portWrite 15 7) (base .attract)).cmd.arguments.getD 15 0 = 7 ∧
      after (.portWrite 16 7) (base .attract) = base .attract := by decide +kernel

/-- A code in IDLE runs its own command, at the codes 0, 1, 16 and 17 and at every one between. -/
theorem test_codes_name_commands_witness :
    let s := withArguments (base .offline) [1]
    let r := withArguments (inRace .finished 9000000) [1]
    let write := fun (t : State) (n : Word) => after (.portWrite 0x020 n) t
    s.cmd.unit = .idle ∧ (write s 1).cmd.unit = .busy .clamped [0x1FEF] 10000000 ∧
      (write s 16).cmd.unit = .busy .wrongState [0] 10000000 ∧ (write s 0).cmd.unit = .busy .badArgument [] 10000000 ∧
      write s 17 = after (.unknownCommand 17) s ∧ write s 0xFFFF = after (.unknownCommand 0xFFFF) s ∧
      (commandTable.all fun x => decide (write s (BitVec.ofNat 16 x.1) = after x.2 s)) = true ∧
      (commandTable.all fun x => decide (write r (BitVec.ofNat 16 x.1) = after x.2 r)) = true ∧
      commandTable.map Prod.fst = List.range' 1 16 := by decide +kernel

theorem test_events_witness :
    let s := (base .attract).setEvents ⟨[⟨.overflow, 0, 4, 9⟩], true⟩
    s.interruptAsserted = true ∧ s.portRead 0x024 = 28 ∧ (after .eventRelease s).events.records = [] ∧
      (after (.interruptEnableWrite 0xFFFE) s).interruptAsserted = false ∧
      EventKind.masked .green s.settings.eventMask = false ∧
      postRecord 0 0 ⟨.green, 0, 0, 1⟩ (after .eventRelease s).events.records = [⟨.green, 0, 0, 1⟩] := by decide +kernel

/-- The first and the last codes and mask positions, OVERFLOW unmasked, and the ends of the unnamed addresses. -/
theorem test_event_codes_witness :
    let shown := fun k => ((base .attract).setEvents ⟨[⟨k, 3, 0, 0⟩], false⟩).portRead 0x024
    let kept := fun (mask : BitVec 24) k => (postRecord mask 0 ⟨k, 0, 0, 0⟩ []).length
    let s := after .openImage { base .attract with image := ⟨.ready ((base .attract).startImage 6 0), .free, .free, none⟩ }
    shown .frameLost = 0x301 ∧ shown .overflow = 0x31C ∧ shown .linkHeard = 0x310 ∧ maskPosition .overflow = none ∧
      kept 1 .frameLost = 0 ∧ kept 1 .frameReturned = 0 ∧ kept 0xFFFFFE .frameLost = 1 ∧
      kept 0x800000 .configDefaulted = 0 ∧ kept 0x7FFFFF .configDefaulted = 1 ∧ kept 0xFFFFFF .overflow = 1 ∧
      (s.portRead 0x02A, s.portRead 0x0FF, s.portRead 0x180, s.portRead 0x1FF) = (0, 0, 0, 0) ∧
      s.portRead 0x100 = 6 := by decide +kernel

/-- A lost timeout below and a report spacing above its range, and a pin that stays PLAIN. -/
theorem test_configure_witness :
    let zero := after .configure (withArguments (base .offline) ([100, 99, 1, 1, 0, 1, 1, 51, 5, 1, 3000, 60, 5, 0] ++ [0, 0]))
    let one := after .configure (withArguments (base .offline) [0, 0, 0, 0, 0, 0, 0, 0, 5001, 0, 0xAA, 0, 0, 1])
    zero.cmd.unit = .busy .clamped [0x0082] 10000000 ∧ zero.settings.lostTimeout = 100 ∧
      zero.settings.reportSpacing = 50 ∧ one.settings.greenHold = 5000 ∧
      one.settings.functions = Four.replicate .plain ∧
      (after .configure (base .attract)).cmd.unit = .busy .wrongState [] 10000000 ∧
      (after .configure (withArguments (base .offline) [0, 0, 0, 0, 0, 0, 0, 0, 0, 0, 0, 0, 0, 2])).cmd.unit =
        .busy .badArgument [] 10000000 ∧
      (after .readConfig (withArguments (base .offline) [2])).cmd.unit = .busy .badArgument [] 10000000 := by
  decide +kernel

/-- Both groups with each word below and above its range, and both read back. -/
theorem test_configure_words_witness :
    let offline := (base .offline).setLoader { (base .offline).loader with defaulted := true }
    let set := fun l => after .configure (withArguments offline l)
    let low := set (List.replicate 16 0)
    let high := set (List.replicate 13 0xFFFF ++ [0, 0x12, 0x3456])
    let one := set [10001, 0xFFFF, 10001, 2, 10001, 4, 10001, 8, 5001, 0xE4, 0x1B, 0, 0, 1]
    let read := fun (s : State) n => (after .readConfig (withArguments (s.setCmd { s.cmd with unit := .idle }) [n])).cmd.unit
    low.cmd.unit = .busy .clamped [0x1FEF] 10000000 ∧ high.cmd.unit = .busy .clamped [0x1FE3] 10000000 ∧
      one.cmd.unit = .busy .clamped [0x755] 10000000 ∧ high.settings.eventMask = 0x123456 ∧
      one.settings.failSafe = ⟨.off, .on, .blink, .blink⟩ ∧ one.settings.functions = ⟨.plain, .plain, .link, .lamp⟩ ∧
      read low 0 = .busy .ok [16, 100, 1, 1, 0, 1, 1, 4, 5, 1, 3000, 60, 5, 0, 0, 0] 10000000 ∧
      read high 0 =
        .busy .ok [250, 2000, 0xFFFF, 0xFFFF, 15, 32768, 6, 50, 60, 8, 10000, 1800, 60, 0, 0x12, 0x3456] 10000000 ∧
      read one 1 = .busy .ok [10000, 15, 10000, 2, 10000, 4, 10000, 8, 5000, 0xA4, 0x1A, 1] 10000000 := by
  decide +kernel

theorem test_online_offline_witness :
    let off := (base .offline).setTx { (base .offline).tx with phase := .disabled }
    (after .goOnline (base .offline)).race.own = .attract ∧
      (after .goOnline off).cmd.unit = .busy .disabled [] 10000000 ∧
      (after .goOnline (base .attract)).cmd.unit = .busy .wrongState [] 10000000 ∧
      (after .goOffline (inRace .racing 9000000)).tx.queue = [.withdraw 2] ∧
      (after .goOffline (base .attract)).race.own = .offline ∧
      (after .restart (inRace .racing 9000000)).tx.queue = [.withdraw 3] ∧
      (after .restart (base .attract)).tx.queue = [] := by decide +kernel

/-- GO_OFFLINE from a race with none, three and four control frames held, a START among them. -/
theorem test_go_offline_queue_witness :
    let s := fun (own : OwnState) (q : List ControlFrame) => (inRace own 9000000).setTx { (inRace own 9000000).tx with queue := q }
    let go := fun own q => after .goOffline (s own q)
    let three : List ControlFrame := [.withdraw 1, .start, .withdraw 3]
    (s .racing three).cmd.unit = .idle ∧ (go .racing []).tx.queue = [.withdraw 2] ∧ (go .racing []).events.records = [] ∧
      (go .racing three).tx.queue = [.withdraw 1, .withdraw 3, .withdraw 2] ∧ (go .racing three).events.records = [] ∧
      (go .racing (.withdraw 4 :: three)).tx.queue = [.withdraw 1, .withdraw 3, .withdraw 2] ∧
      (go .racing (.withdraw 4 :: three)).events.records = [⟨.txDropped, 0, 4, 10000000⟩] ∧
      (go .racing (.withdraw 4 :: three)).tx.drops = 1 ∧ (go .entered three).tx.queue = [.withdraw 1, .withdraw 3] := by
  decide +kernel

/-- RESTART from a race state shows DEFER, and from the lobby IDLE. -/
theorem test_restart_shows_witness :
    let entry := fun own => (base own).setRace { (base own).race with
      entry := some ⟨7, 3⟩, lobbyTimer := some 5, proposal := .pending }
    (after .restart (inRace .racing 9000000)).txState = .defer ∧ (after .restart (base .attract)).txState = .idle ∧
      (after .restart (sending (inRace .racing 9000000) .car 0)).tx.crossing = true ∧
      (after .restart ((entry .entered).setPeers { (entry .entered).peers with heard := true, silent := true })).peers =
        PeerTable.initial ∧
      (after .restart (entry .entered)).race = Sequencer.initial := by decide +kernel

/-- GO_OFFLINE with a WITHDRAW current in BACKOFF, with a CALL current there, and with a CALL SENDING (R50, R51). -/
theorem test_go_offline_current_witness :
    let s := fun x phase => (base .attract).setTx { (base .attract).tx with
      queue := [.withdraw 1], current := some ⟨x, 2, 5⟩, phase := phase, opportunity := some 10000005 }
    let go := fun x phase => (after .goOffline (s x phase)).tx
    (go (.withdraw 1) .backoff).current = some ⟨.withdraw 1, 2, 5⟩ ∧ (go (.withdraw 1) .backoff).phase = .backoff ∧
      (go .call .backoff).current = none ∧ (go .call .backoff).phase = .ready ∧ (go .call .sending).current = none ∧
      (go .call .sending).phase = .sending ∧ (go .call .backoff).opportunity = some 10000005 ∧
      (go .call .stuck).phase = .stuck := by decide +kernel

theorem test_entry_witness :
    let enter := fun n => after .enter (withArguments (base .attract) [7, n])
    (enter 99).race.entry = some ⟨7, 99⟩ ∧ (enter 100).cmd.unit = .busy .clamped [] 10000000 ∧
      (enter 0).cmd.unit = .busy .badArgument [] 10000000 ∧ (base .entered).cmd.unit = .idle ∧
      (after .cancelEntry (base .entered)).race.own = .attract ∧
      (after .cancelEntry (base .attract)).cmd.unit = .busy .wrongState [] 10000000 := by decide +kernel

/-- A car beyond X's limit, a frame before the held one, a surface code of 4, and a frame not in the history. -/
theorem test_post_car_witness :
    let s := { inRace .racing 9000000 with
      frame := ⟨true, some true, some true, some true, .present, 6, [⟨5, 9980000⟩, ⟨6, 9996000⟩], some 16000, some 10096000, some 9996000, true⟩ }
    let held := withEntry s 0 { Entry.initial with car := some ⟨carAt 9996000, 0, false, some 6⟩ }
    let post := fun (t : State) n x c => (after .postCar (withArguments t [n, x, 0, 0, 0, 0, 0, 0x8000, 0, 0, 0, 0, 0, 0, 0, c]))
    (post s 5 0x7FFF 3).cmd.unit = .busy .clamped [1] 10000000 ∧
      ((post s 5 0x7FFF 3).entry 0).car.map (fun r => (r.car.x, r.car.vx)) = some (0x7FFFFF, 0x8001) ∧
      (post held 6 0 0).cmd.unit = .busy .ok [0] 10000000 ∧
      (post held 5 0 0).cmd.unit = .busy .staleFrame [] 10000000 ∧
      (post s 5 0 4).cmd.unit = .busy .badArgument [] 10000000 ∧
      (post s 7 0 0).cmd.unit = .busy .staleFrame [] 10000000 ∧
      (post (base .results) 5 0 0).cmd.unit = .busy .wrongState [] 10000000 := by decide +kernel

/-- Every rate of a POST_CAR at -32,768, and the lookup of a frame held and of one that is not. -/
theorem test_post_car_rates_witness :
    let s := { inRace .racing 9000000 with
      frame := ⟨true, some true, some true, some true, .present, 6, [⟨5, 9980000⟩, ⟨6, 9996000⟩], some 16000, some 10096000, some 9996000, true⟩ }
    let t := after .postCar (withArguments s [5, 0, 1, 0, 2, 0, 3, 0x8000, 0x8000, 0x8000, 0xFFFF, 0x8000, 1, 2, 0x8000, 0])
    (t.entry 0).car.map CarRecord.car =
        some ⟨9980000, 1, 2, 3, 0x8001, 0x8001, 0x8001, 0xFFFF, 0x8001, 0x10002, 0x8001, .onRoad⟩ ∧
      t.cmd.unit = .busy .ok [0] 10000000 ∧ takenRate 0x7FFF = 0x7FFF ∧ s.lookupFrame 7 = none ∧
      s.lookupFrame 6 = some 9996000 := by decide +kernel

/-- LAP in each of its tests: at the origin, and 999,999 and 1,000,000 µs after the last crossing. -/
theorem test_lap_witness :
    let s := fun (green : Instant) laps list =>
      let t := inRace .racing green
      { t with
        frame := ⟨true, some true, some true, some true, .present, 5, [⟨5, 9980000⟩], none, some 10080000, some 9980000, true⟩
        race := { t.race with lapCount := laps, lapList := list } }
    let lap := fun t => after .lap (withArguments t [5, 0])
    (lap (s 9980000 0 [])).cmd.unit = .busy .early [] 10000000 ∧
      (lap (s 8000000 1 [980001])).cmd.unit = .busy .tooSoon [] 10000000 ∧
      (lap (s 8000000 1 [980000])).race.lapList = [980000, 1980000] ∧
      (after .lap (withArguments (s 8000000 0 []) [5, 256])).cmd.unit = .busy .badArgument [] 10000000 ∧
      (after .lap (withArguments (s 8000000 0 []) [6, 0])).cmd.unit = .busy .staleFrame [] 10000000 ∧
      (lap (base .attract)).cmd.unit = .busy .wrongState [] 10000000 := by decide +kernel

/-- The finish of a race of three laps: with a station still running, with none, with the grace end reached, and second. -/
theorem test_lap_finishes_witness :
    let t := inRace .racing 7000000
    let s := { t with
      frame := ⟨true, some true, some true, some true, .present, 5, [⟨5, 9980000⟩], none, some 10080000, some 9980000, true⟩
      race := { t.race with lapCount := 2, lapList := [1000000, 1980000] } }
    let lap := fun t => after .lap (withArguments t [5, 0])
    let done := withEntry (withEntry s 1 { Entry.initial with state := .retired }) 2 { Entry.initial with state := .lost }
    let second := s.setRace { s.race with earliest := some 2980000, graceTimer := some 30230000 }
    s.race.lapCount = s.race.lapList.length ∧ (lap s).race.own = .finished ∧
      (lap s).race.graceTimer = some 30230000 ∧ (lap s).race.earliest = some 2980000 ∧
      (lap s).events.records = [⟨.ownLap, 0, 100, 9980000⟩, ⟨.ownFinished, 0, 3, 9980000⟩] ∧
      ((lap s).entry 0).finish = some 2980000 ∧ (lap s).tx.slot.finishMark = true ∧
      (lap second).race.earliest = some 2980000 ∧ (lap second).race.graceTimer = some 30230000 ∧
      (lap done).race.own = .results ∧
      (lap done).events.records.getLast? = some ⟨.resultsFinal, 0, 1, 10000000⟩ ∧
      (lap (s.setTick 30230000)).race.own = .results ∧ (lap (s.setTick 30229999)).race.own = .finished ∧
      (lap (s.setTick 30230000)).events.records.getLast? = some ⟨.resultsFinal, 0, 1, 30230000⟩ := by decide +kernel

/-- A lap fraction of 128 of a frame of 16,000 µs, and a crossing stamp that stops at the take. -/
theorem test_crossing_witness :
    let s := { base .racing with
      frame := ⟨true, some true, some true, some true, .present, 6, [⟨5, 9980000⟩, ⟨6, 9996000⟩], some 16000, some 10096000, some 9996000, true⟩ }
    s.crossingStamp 5 128 9980000 = 9988000 ∧ s.crossingStamp 6 255 9996000 = 10000000 := by decide +kernel

theorem test_leaving_witness :
    let s := withEntry (inRace .racing 9000000) 3 { Entry.initial with state := .present, lastHeard := some 5 }
    let s := withEntry s 4 { Entry.initial with state := .lost, lastHeard := some 5 }
    let r := inRace .results 9000000
    (after .quit s).tx.queue = [.withdraw 1] ∧ ((after .quit s).entry 1).state = .present ∧
      ((after .quit s).entry 2).state = .absent ∧ ((after .quit s).entry 4).state = .absent ∧
      (after .quit s).entry 3 = s.entry 3 ∧ (after .quit s).race.own = .attract ∧
      (after .ackResults r).race.own = .attract ∧ (after .ackResults r).tx.queue = [] ∧
      (after .ackResults s).cmd.unit = .busy .wrongState [] 10000000 := by decide +kernel

/-- The ends of the results list and of the station numbers. -/
theorem test_reading_witness :
    let s := inRace .finished 9000000
    let read := fun n => (after .readResults (withArguments s [n])).cmd.unit
    let peer := fun n => (after .readPeer (withArguments s [n])).cmd.unit
    (s.resultsFor none).length = 3 ∧ read 0 = .busy .badArgument [] 10000000 ∧
      read 4 = .busy .badArgument [] 10000000 ∧
      read 3 = .busy .ok [3, 0, 3, 2, 1, 0, 0, 0, 0, 0, 0, 0, 0] 10000000 ∧
      peer 7 = .busy .ok [0, 0, 0, 0, 0, 0, 0] 10000000 ∧ peer 8 = .busy .badArgument [] 10000000 ∧
      peer 1 = .busy .ok [5, 2, 0, 0, 0, 152, 0x9298] 10000000 ∧
      (after .readHealth s).cmd.unit = .busy .ok [0, 0, 0, 0, 0] 10000000 := by decide +kernel

/-- Every mark of READ_PEER and of READ_RESULTS. -/
theorem test_reading_marks_witness :
    let s := (inRace .finished 5000000)
    let s := s.setRace { s.race with lapCount := 1, lapList := [4000000] }
    let full : Entry := { Entry.initial with
      state := .finished, lastHeard := some 9999000, raceFlag := true, dnf := true, resend := true
      lobby := some ⟨9, 2⟩, car := some ⟨{ carAt 9990000 with g := 7 }, 2, true, none⟩, finish := some 4000000 }
    let s := withEntry (withEntry s 1 full) 0 { full with lastHeard := none }
    let read := fun c n => (after c (withArguments s [n])).cmd.unit
    read .readPeer 1 = .busy .ok [6, 0x7F, 9, 2, 0, 152, 0x9298] 10000000 ∧
      read .readPeer 0 = .busy .ok [5, 0xFD, 7, 3, 0, 0, 0] 10000000 ∧
      read .readResults 1 = .busy .ok [3, 0, 1, 0, 0, 7, 61, 0x0900, 0, 7, 1, 61, 0x0900] 10000000 ∧
      read .readResults 2 = .busy .ok [3, 0, 2, 1, 0, 3, 61, 0x0900, 0, 7, 2, 0, 0] 10000000 := by decide +kernel

theorem test_set_output_witness :
    let s := base .attract
    let s := s.setLoader { s.loader with settings := { s.settings with functions := ⟨.lamp, .lamp, .lamp, .plain⟩ } }
    let set := fun p v => after .setOutput (withArguments s [p, v])
    (set 3 1).cmd.unit = .busy .ok [8] 10000000 ∧ (set 3 2).cmd.unit = .busy .badArgument [0] 10000000 ∧
      (set 4 0).cmd.unit = .busy .badArgument [0] 10000000 ∧ (set 3 1).pinLevel 3 = true ∧ s.pinWord = 0 ∧
      (after (.hardwareReset 3 0 false []) (set 3 1)).lamp.plain = Four.replicate false ∧ (set 2 1).cmd.unit = .busy .wrongState [0] 10000000 := by
  decide +kernel

/-- Both halves of the status word with every field set, and the ends of the buffers. -/
theorem test_status_word_witness :
    let s := base .results
    let s := { s with
      frame := { s.frame with input := .present }, tx := { s.tx with phase := .disabled }, events := ⟨[], true⟩
      loader := { s.loader with defaulted := true }
      cmd := ⟨.busy .ok [] 10000000, List.replicate 15 0 ++ [5], zeroBuffer, List.replicate 15 0 ++ [6], .clamped, 16, true⟩ }
    s.cmd.arguments.length = 16 ∧ s.cmd.reply.length = 16 ∧ s.portRead 0x020 = 3106 ∧ s.portRead 0x021 = 379 ∧
      s.portRead 0x00F + s.portRead 0x01F = 11 ∧ State.reset.portRead 0x020 = 0 := by decide +kernel

end Sys2Proof.Tests
end

section
/-! PROOFS. The check of a completed frame (R24), the reading of its fields (R22, R28 to R33), and what a discard does. -/

namespace Sys2Proof.Machine

open Sys2Proof.Claims

/-! ## The four checks of a completed frame (R24) -/

/-- The frame a receiver reads from bytes that pass the four checks (R22, R25). -/
def readFrame (b : List Byte) : BusFrame where
  sender := Fin.ofNat 8 ((byteAt b 0).toNat / 2)
  raceFlag := (byteAt b 0).getLsbD 0
  sequence := byteAt b 1
  payload := readPayload b (frameKind b)

/-- Check 1. -/
theorem checkFrame_eq_broken {b : List Byte} (h : b.length < 5 ∨ b.length ≠ 5 + (byteAt b 2).toNat) :
    checkFrame b = .discarded .broken :=
  if_pos h

/-- The CRC field is the last two bytes (R22, R23). -/
theorem field2_last {b : List Byte} (hmin : 5 ≤ b.length) :
    field2 b (b.length - 2) = byteAt b (b.length - 2) ++ byteAt b (b.length - 1) := by
  rw [field2, show b.length - 2 + 1 = b.length - 1 by omega]

/-- Past check 1, checks 2 to 4 remain. -/
theorem checkFrame_of_whole {b : List Byte} (hmin : 5 ≤ b.length) (hlen : b.length = 5 + (byteAt b 2).toNat) :
    checkFrame b =
      if crc16 (b.take (b.length - 2)) ≠ byteAt b (b.length - 2) ++ byteAt b (b.length - 1) then .discarded .crc
      else if frameKind b < 1 ∨ 4 < frameKind b then .discarded .kind
      else if !lengthAgrees b then .discarded .length
      else .valid (readFrame b) := by
  rw [← field2_last hmin]
  exact if_neg (not_or.mpr ⟨Nat.not_lt.mpr hmin, not_not_intro hlen⟩)

/-- Check 2. -/
theorem checkFrame_eq_crc {b : List Byte} (hmin : 5 ≤ b.length) (hlen : b.length = 5 + (byteAt b 2).toNat)
    (hcrc : crc16 (b.take (b.length - 2)) ≠ byteAt b (b.length - 2) ++ byteAt b (b.length - 1)) :
    checkFrame b = .discarded .crc :=
  (checkFrame_of_whole hmin hlen).trans (if_pos hcrc)

/-- Past check 2, checks 3 and 4 remain. -/
theorem checkFrame_of_crc {b : List Byte} (hmin : 5 ≤ b.length) (hlen : b.length = 5 + (byteAt b 2).toNat)
    (hcrc : crc16 (b.take (b.length - 2)) = byteAt b (b.length - 2) ++ byteAt b (b.length - 1)) :
    checkFrame b =
      if frameKind b < 1 ∨ 4 < frameKind b then .discarded .kind
      else if !lengthAgrees b then .discarded .length
      else .valid (readFrame b) :=
  (checkFrame_of_whole hmin hlen).trans (if_neg (not_not_intro hcrc))

/-- Check 4 compares the length byte with the payload length of the kind, as R28 lists it. -/
theorem lengthAgrees_eq_decide {b : List Byte} {n : Nat}
    (h : frameKind b = 1 ∧ n = 4 ∨ frameKind b = 2 ∧ n = 7 ∨
      frameKind b = 3 ∧ n = (if (byteAt b 31).getLsbD 2 then 34 else 30) ∨ frameKind b = 4 ∧ n = 1) :
    lengthAgrees b = decide ((byteAt b 2).toNat = n) := by
  obtain ⟨hkind, rfl⟩ | ⟨hkind, rfl⟩ | ⟨hkind, rfl⟩ | ⟨hkind, rfl⟩ := h <;> simp only [lengthAgrees, hkind]
  split <;> rfl

/-- What is valid has one of the four kinds and is read as it stands (R24, R25). -/
theorem checkFrame_eq_valid {b : List Byte} {f : BusFrame} (h : checkFrame b = .valid f) :
    (1 ≤ frameKind b ∧ frameKind b ≤ 4) ∧ f = readFrame b := by
  unfold checkFrame at h
  split at h
  case isTrue => cases h
  split at h
  case isTrue => cases h
  split at h
  case isTrue => cases h
  next hkind =>
  split at h
  case isTrue => cases h
  cases h
  exact ⟨by omega, rfl⟩

/-! ## The fields of a valid frame at their offsets (R22, R28 to R33) -/

/-- A three-byte field is its first byte and the two-byte field behind it. -/
theorem field3_eq_append (b : List Byte) (i : Nat) : field3 b i = byteAt b i ++ field2 b (i + 1) :=
  BitVec.append_assoc

/-- A four-byte field is two two-byte fields. -/
theorem field4_eq_append (b : List Byte) (i : Nat) : field4 b i = field2 b i ++ field2 b (i + 2) :=
  BitVec.append_assoc

/-- A payload read by one of the four kind codes has that kind code. -/
theorem frameCode_readPayload (b : List Byte) {k : Nat} (hlow : 1 ≤ k) (hhigh : k ≤ 4) :
    frameCode (readPayload b k) = k := by
  obtain rfl | rfl | rfl | rfl : k = 1 ∨ k = 2 ∨ k = 3 ∨ k = 4 := by omega
  all_goals rfl

/-- A CALL as it is read (R29). -/
theorem readPayload_eq_call {b : List Byte} {k : Nat} {entered : Bool} {race : LobbyInfo}
    (h : readPayload b k = .call entered race) :
    entered = decide (byteAt b 3 = 1) ∧ race = ⟨field2 b 4, byteAt b 6⟩ := by
  unfold readPayload at h
  split at h <;> cases h
  exact ⟨rfl, rfl⟩

/-- A START as it is read (R30). -/
theorem readPayload_eq_start {b : List Byte} {k : Nat} {q : StartProposal} (h : readPayload b k = .start q) :
    q = ⟨field3 b 3, byteAt b 6, ⟨field2 b 7, byteAt b 9⟩⟩ := by
  unfold readPayload at h
  split at h <;> cases h
  rfl

/-- A CAR as it is read (R31, R32). -/
theorem readPayload_eq_car {b : List Byte} {k : Nat} {c : CarReport} (h : readPayload b k = .car c) :
    c = readCar b := by
  unfold readPayload at h
  split at h <;> cases h
  rfl

/-- A WITHDRAW as it is read (R33). -/
theorem readPayload_eq_withdraw {b : List Byte} {k : Nat} {reason : Byte} (h : readPayload b k = .withdraw reason) :
    reason = byteAt b 3 := by
  unfold readPayload at h
  split at h <;> cases h
  rfl

/-- The surface class has the code in the two low status bits (R31). -/
theorem surfaceCode_statusSurface (status : Byte) : surfaceCode (statusSurface status) = status.toNat % 4 := by
  obtain h | h | h | h : status.toNat % 4 = 0 ∨ status.toNat % 4 = 1 ∨ status.toNat % 4 = 2 ∨ status.toNat % 4 = 3 := by
    omega
  all_goals simp only [statusSurface, h, surfaceCode]

/-! ## What a discard does (R20, R24, R52) -/

/-- A discard is followed by nothing at the Transmitter. -/
theorem done_discard {s : State} (hc : s.currentStands = true) :
    done s (s.setRx s.rx.discard) = .next { s with rx := afterDiscard s.rx } :=
  done_same hc rfl rfl

/-- FRAME_BROKEN of another station's frame (R20). -/
theorem exec_frameBroken_discarded {s : State} {r : Instant} (ha : s.rx.arrival = some r)
    (hx : s.tx.crossing = false) (hp : s.tx.phase ≠ .sending) :
    exec .frameBroken s = done s (s.setRx s.rx.discard) := by
  simp [exec, execFrameBroken, ha, hx, hp]

/-- Settles O22: the checks one after the other, the fields by the kind that was read, and the two rows that discard. -/
theorem frameChecksInOrder : Obligations.FrameChecksInOrder := by
  refine ⟨fun b => ⟨checkFrame_eq_broken, fun hmin hlen => ?checks⟩, ?fields, ?discards⟩
  case checks =>
    refine ⟨checkFrame_eq_crc hmin hlen, fun hcrc => ?_⟩
    rw [checkFrame_of_crc hmin hlen hcrc]
    refine ⟨fun hkind => if_pos (hkind.imp Nat.lt_one_iff.mpr id), fun n hn => ?_⟩
    rw [if_neg (by rw [frameKind, byteAt]; omega), lengthAgrees_eq_decide hn]
    exact ⟨fun hne => if_pos (by simpa [byteAt] using hne), fun heq => ⟨_, if_neg (by simpa [byteAt] using heq)⟩⟩
  case fields =>
    intro b f two three four htwo hthree hfour hvalid
    obtain rfl : two = field2 b := funext htwo
    obtain rfl : three = field3 b := funext fun i => (hthree i).trans (field3_eq_append b i).symm
    obtain rfl : four = field4 b := funext fun i => (hfour i).trans (field4_eq_append b i).symm
    obtain ⟨⟨hlow, hhigh⟩, rfl⟩ := checkFrame_eq_valid hvalid
    refine ⟨frameCode_readPayload b hlow hhigh, rfl, rfl, rfl, fun _ _ h => readPayload_eq_call h,
      fun _ h => readPayload_eq_start h, fun _ h => readPayload_eq_withdraw h, fun c h => ?_⟩
    obtain rfl := readPayload_eq_car h
    exact ⟨surfaceCode_statusSurface _, rfl⟩
  case discards =>
    rintro s a hstands ⟨⟨r, harrival, -⟩, hcrossing⟩
    exact ⟨fun hphase => (exec_frameBroken_discarded harrival hcrossing hphase).trans (done_discard hstands),
      fun _ _ hdiscard => (exec_frameCompletion_discarded harrival hcrossing hdiscard).trans (done_discard hstands)⟩

end Sys2Proof.Machine
end

section
/-! PROOFS. A record carried forward: the interval clamped (R121), the step rounded (R122), the sums in their ranges
(R123). -/

namespace Sys2Proof.Machine

open Sys2Proof.Claims

/-! ## The extrapolation interval (R121) -/

/-- A target at or before the sample leaves the record where it is. -/
theorem carryInterval_of_nonpos (t : Settings) {a f : Instant} (h : interval a f ≤ 0) : carryInterval t a f = 0 := by
  unfold carryInterval
  split
  case isTrue => rfl
  case isFalse hneg => rw [if_neg (by omega), Int.toNat_of_nonpos h]

/-- Within the horizon the interval counts as it is. -/
theorem carryInterval_of_within (t : Settings) {a f : Instant} (hlow : 0 ≤ interval a f)
    (hhigh : interval a f ≤ (t.horizonMicros : Int)) : (carryInterval t a f : Int) = interval a f := by
  rw [carryInterval, if_neg (by omega), if_neg (by omega), Int.toNat_of_nonneg hlow]

/-- Beyond the horizon the interval is the horizon. -/
theorem carryInterval_of_beyond (t : Settings) {a f : Instant} (h : (t.horizonMicros : Int) < interval a f) :
    carryInterval t a f = t.horizonMicros := by
  rw [carryInterval, if_neg (by omega), if_pos h]

/-- No record is carried further than the horizon. -/
theorem carryInterval_le (t : Settings) (a f : Instant) : carryInterval t a f ≤ t.horizonMicros := by
  unfold carryInterval
  split
  case isTrue => exact Nat.zero_le _
  split
  case isTrue => exact Nat.le_refl _
  case isFalse hhigh => exact Int.toNat_le.mpr (Int.not_lt.mp hhigh)

/-! ## The step (R122) -/

/-- Adding half the divisor before the floored division rounds to the nearest integer, halves upward. -/
theorem nearest_iff_carryStep {rate : Word} {dt : Nat} {n : Int} :
    nearest (rate.toInt * dt) n ↔ carryStep rate dt = n := by
  unfold nearest carryStep
  generalize rate.toInt * (dt : Int) = p
  omega

/-! ## The sums (R123) -/

/-- Saturation clamps to the signed 24-bit range, and the word holds the clamped number. -/
theorem saturate24_toInt (v : Int) : (saturate24 v).toInt = max (-8388608) (min 8388607 v) := by
  have hclamp : (if v < -8388608 then -8388608 else if 8388607 < v then 8388607 else v) =
      max (-8388608) (min 8388607 v) := by
    split <;> omega
  rw [saturate24, hclamp, BitVec.toInt_ofInt]
  exact Int.bmod_eq_of_le (by omega) (by omega)

/-- Positions saturate. -/
theorem carryPosition_toInt (v : BitVec 24) {rate : Word} {dt : Nat} {n : Int} (h : nearest (rate.toInt * dt) n) :
    (carryPosition v rate dt).toInt = max (-8388608) (min 8388607 (v.toInt + n)) := by
  rw [carryPosition, saturate24_toInt, nearest_iff_carryStep.mp h]

/-- The heading wraps. -/
theorem carryHeading_eq (v : Word) {rate : Word} {dt : Nat} {n : Int} (h : nearest (rate.toInt * dt) n) :
    carryHeading v rate dt = v + BitVec.ofInt 16 n := by
  rw [carryHeading, nearest_iff_carryStep.mp h]

/-- Progress saturates. -/
theorem carryProgress_toNat (v : BitVec 32) {rate : Word} {dt : Nat} {n : Int} (h : nearest (rate.toInt * dt) n) :
    ((carryProgress v rate dt).toNat : Int) = max 0 (min 4294967295 (v.toNat + n)) := by
  simp only [carryProgress, nearest_iff_carryStep.mp h]
  generalize (v.toNat : Int) + n = g
  split
  case isTrue hbelow => rw [show (0 : BitVec 32).toNat = 0 from rfl]; omega
  split
  case isTrue habove => rw [show (0xFFFFFFFF#32).toNat = 4294967295 from rfl]; omega
  case isFalse => rw [BitVec.toNat_ofInt]; omega

/-- Settles O16: every component is carried by the one interval `carryInterval` gives. -/
theorem carryingForward : Obligations.CarryingForward := fun t c f =>
  ⟨carryInterval t c.sample f, carryInterval_le t c.sample f, carryInterval_of_nonpos t, carryInterval_of_within t,
    carryInterval_of_beyond t, rfl, fun _ => carryPosition_toInt c.x, fun _ => carryPosition_toInt c.y,
    fun _ => carryPosition_toInt c.z, fun _ => carryHeading_eq c.h, fun _ => carryProgress_toNat c.g⟩

end Sys2Proof.Machine
end

section
/-! PROOFS. Opening an image: what OPEN_IMAGE does to each bank, and what the Command Unit answers (R144). -/

namespace Sys2Proof.Machine

open Sys2Proof.Claims

/-! ## The banks (R136, R144) -/

/-- What opening a READY image makes of a bank. -/
def Bank.afterOpening : Bank → Bank
  | .ready i => .opened i
  | .opened _ => .free
  | .filling i => .filling i
  | .free => .free

/-- The banks that are OPEN after the opening are those that were READY. -/
theorem Bank.openImage_comp_afterOpening : Bank.openImage ∘ Bank.afterOpening = Bank.readyImage := by
  funext k
  cases k <;> rfl

/-- The three banks after one function is applied to each. -/
theorem ImageBuilder.banks_mapBanks (b : ImageBuilder) (f : Bank → Bank) : (b.mapBanks f).banks = b.banks.map f := rfl

/-- With no bank READY the banks stay as they are. -/
theorem ImageBuilder.openReady_of_none {b : ImageBuilder} (h : b.ready = none) : b.openReady = b :=
  if_pos (Option.isNone_iff_eq_none.mpr h)

/-- With a bank READY every bank changes by the one rule. -/
theorem ImageBuilder.openReady_of_some {b : ImageBuilder} {i : Image} (h : b.ready = some i) :
    b.openReady = b.mapBanks Bank.afterOpening := by
  have hrule : b.openReady = b.mapBanks _ := if_neg (by simp [h])
  rw [hrule]
  congr 1
  funext k
  cases k <;> rfl

/-- A build in progress goes on. -/
theorem ImageBuilder.build_openReady (b : ImageBuilder) : b.openReady.build = b.build := by
  unfold openReady
  split <;> rfl

/-- The image that is OPEN after the opening is the one that was READY. -/
theorem ImageBuilder.opened_openReady {b : ImageBuilder} {i : Image} (h : b.ready = some i) :
    b.openReady.opened = some i := by
  calc b.openReady.opened
      = (b.banks.map Bank.afterOpening).findSome? Bank.openImage := by
        rw [openReady_of_some h, opened, banks_mapBanks]
    _ = b.banks.findSome? (Bank.openImage ∘ Bank.afterOpening) := List.findSome?_map
    _ = b.ready := by rw [ready, Bank.openImage_comp_afterOpening]
    _ = some i := h

/-! ## The reply (R144) -/

/-- The reply with a bank OPEN: its sequence and the open mark. -/
theorem ImageBuilder.openReply_of_some {b : ImageBuilder} {i : Image} (h : b.opened = some i) :
    b.openReply = [i.sequence, 1] := by
  simp only [openReply, h]

/-- The reply with no bank OPEN. -/
theorem ImageBuilder.openReply_of_none {b : ImageBuilder} (h : b.opened = none) : b.openReply = [0, 0] := by
  simp only [openReply, h]

/-! ## The command (R144, R166) -/

/-- OPEN_IMAGE taken in IDLE changes the banks and the Command Unit alone, and nothing follows at the Transmitter. -/
theorem exec_openImage {s : State} (hstands : s.currentStands = true) (hidle : s.cmd.unit = .idle) :
    exec .openImage s = .next { s with
      image := s.image.openReady
      cmd := taken s (if s.image.ready.isNone then .noNewer else .ok) s.image.openReady.openReply } := by
  have htake : exec .openImage s = done s (s.take State.openImage) := rfl
  rw [htake, State.take_idle hidle]
  exact done_same hstands rfl rfl

/-- OPEN_IMAGE with a READY bank. -/
theorem exec_openImage_ready {s : State} {i : Image} (hstands : s.currentStands = true) (hidle : s.cmd.unit = .idle)
    (hready : s.image.ready = some i) :
    exec .openImage s = .next { s with image := s.image.openReady, cmd := taken s .ok [i.sequence, 1] } := by
  rw [exec_openImage hstands hidle, ImageBuilder.openReply_of_some (ImageBuilder.opened_openReady hready), hready]
  rfl

/-- OPEN_IMAGE with no bank READY. -/
theorem exec_openImage_noNewer {s : State} (hstands : s.currentStands = true) (hidle : s.cmd.unit = .idle)
    (hready : s.image.ready = none) :
    exec .openImage s = .next { s with cmd := taken s .noNewer s.image.openReply } := by
  rw [exec_openImage hstands hidle, ImageBuilder.openReady_of_none hready, hready]
  rfl

/-- Settles O18: by whether a bank is READY, and if none is, by whether one is OPEN. -/
theorem openImageOpensReady : Obligations.OpenImageOpensReady := by
  intro s hstands hidle
  refine ⟨fun i hready => ?ready, fun hready i hopen => ?kept, fun hready hopen => ?none⟩
  case ready =>
    exact ⟨_, exec_openImage_ready hstands hidle hready, rfl, ImageBuilder.build_openReady s.image,
      ImageBuilder.opened_openReady hready, congrArg ImageBuilder.banks (ImageBuilder.openReady_of_some hready)⟩
  case kept =>
    rw [exec_openImage_noNewer hstands hidle hready, ImageBuilder.openReply_of_some hopen]
  case none =>
    rw [exec_openImage_noNewer hstands hidle hready, ImageBuilder.openReply_of_none hopen]

end Sys2Proof.Machine
end

section
/-! PROOFS. The Event Queue at the game port: the release of the head (R182), the interrupt enable and the line (R183);
and the health counters read and cleared (R177). -/

namespace Sys2Proof.Machine

open Sys2Proof.Claims

/-! ## The release of the head (R181, R182) -/

/-- The release address is named by EVENT_RELEASE (R162). -/
theorem State.portWrite_release (s : State) (value : Word) : s.portWrite 0x028 value = s.releaseHead := rfl

/-- A release on an empty queue does nothing. -/
theorem State.releaseHead_of_empty {s : State} (h : s.events.records = []) : s.releaseHead = s := by
  rw [releaseHead, h, List.tail_nil, ← h]
  rfl

/-- EVENT_RELEASE is followed by nothing at the Transmitter. -/
theorem exec_eventRelease {s : State} (hstands : s.currentStands = true) :
    exec .eventRelease s = .next s.releaseHead :=
  done_same hstands rfl rfl

/-- The mask positions are those of the manual's table (R180). -/
theorem EventKind.position_eq_maskPosition (k : EventKind) : k.position = maskPosition k := by
  cases k <;> rfl

/-- A kind whose position, if it has one, is clear in the mask is not masked. -/
theorem EventKind.masked_eq_false {k : EventKind} {mask : BitVec 24}
    (h : ∀ p, maskPosition k = some p → mask.getLsbD p = false) : k.masked mask = false := by
  rw [masked, position_eq_maskPosition]
  cases hposition : maskPosition k with
  | none => rfl
  | some p => exact h p hposition

/-- A post that is not masked joins an empty queue (R181). -/
theorem postRecord_nil {mask : BitVec 24} {own : Station} {r : EventRecord} (h : r.kind.masked mask = false) :
    postRecord mask own r [] = [r] := by
  simp [postRecord, h, overflowHeld]

/-- Settles O47: the release is the queue's tail, and the queue that a lone record leaves is empty, whatever its kind. -/
theorem eventReleaseRemovesHead : Obligations.EventReleaseRemovesHead := by
  intro s hstands
  refine ⟨?head, fun hempty => ?nothing, fun value => ?port, fun x r hlone hclear => ?ended⟩
  case head =>
    rw [exec_eventRelease hstands, List.drop_one]
    rfl
  case nothing => rw [exec_eventRelease hstands, State.releaseHead_of_empty hempty]
  case port => exact congrArg (done s) (s.portWrite_release value)
  case ended =>
    rw [hlone]
    exact postRecord_nil (EventKind.masked_eq_false hclear)

/-! ## The interrupt enable as written and as read (R164, R183) -/

/-- The interrupt-enable word is named by INTERRUPT_ENABLE_WRITE (R162). -/
theorem State.portWrite_enable (s : State) (value : Word) : s.portWrite 0x022 value = s.writeEnable value := rfl

/-- INTERRUPT_ENABLE_WRITE is followed by nothing at the Transmitter. -/
theorem exec_interruptEnableWrite {s : State} (value : Word) (hstands : s.currentStands = true) :
    exec (.interruptEnableWrite value) s = .next (s.writeEnable value) :=
  done_same hstands rfl rfl

/-- Bit 0 of a word is its parity. -/
theorem getLsbD_zero_eq_decide (value : Word) : value.getLsbD 0 = decide (value.toNat % 2 = 1) := by
  rw [BitVec.getLsbD, Nat.testBit_zero]

/-- The interrupt-enable word as read: the flag in bit 0, the other bits 0. -/
theorem State.portRead_enable (s : State) : s.portRead 0x022 = if s.events.enable then 1 else 0 := by
  have hread : s.portRead 0x022 = word (flagBit s.events.enable 0) := rfl
  rw [hread]
  cases s.events.enable <;> rfl

/-- A flag at bit n adds 0 or 2^n. -/
theorem flagBit_eq_toNat_mul (b : Bool) (n : Nat) : flagBit b n = b.toNat * 2 ^ n := by
  cases b <;> simp [flagBit]

/-- A flag at bit n of a word, with what stands below it less than 2^n, is read back at bit n. -/
theorem getLsbD_flagBit {n low high : Nat} {b : Bool} (hn : n < 16) (hlow : low < 2 ^ n) :
    (BitVec.ofNat 16 (low + flagBit b n + high * 2 ^ (n + 1))).getLsbD n = b := by
  have hsum : low + flagBit b n + high * 2 ^ (n + 1) = low + 2 ^ n * (b.toNat + 2 * high) := by
    rw [flagBit_eq_toNat_mul, Nat.pow_succ, Nat.mul_add, Nat.add_assoc, Nat.mul_comm b.toNat, Nat.mul_left_comm high,
      Nat.mul_comm high 2]
  rw [BitVec.getLsbD_ofNat, hsum, Nat.testBit_eq_decide_div_mod_eq, Nat.add_mul_div_left _ _ (Nat.two_pow_pos n),
    Nat.div_eq_of_lt hlow, Nat.zero_add, Nat.add_mul_mod_self_left]
  cases b <;> simp [hn]

/-- A flag at bit n is at most 2^n. -/
theorem flagBit_le (b : Bool) (n : Nat) : flagBit b n ≤ 2 ^ n := by
  cases b <;> simp [flagBit]

/-- The codes of the own race state end at 6 (R141). -/
theorem OwnState.code_le (o : OwnState) : o.code ≤ 6 := by
  cases o <;> decide

/-- The part half of the status word shows the enable in bit 5, above the two flags and the own race state (R164). -/
theorem State.getLsbD_partWord_enable (s : State) : s.partWord.getLsbD 5 = s.events.enable := by
  have hdefaulted := flagBit_le s.loader.defaulted 0
  have hpresent := flagBit_le (decide (s.frame.input = .present)) 1
  have hown := s.race.own.code_le
  exact getLsbD_flagBit (by decide) (by omega)

/-- The interrupt line. -/
theorem State.interruptAsserted_iff (s : State) :
    s.interruptAsserted = true ↔ s.events.records ≠ [] ∧ s.events.enable = true := by
  simp [interruptAsserted]

/-! ## What keeps the interrupt enable (R183)

A post changes the records alone, and nothing but INTERRUPT_ENABLE_WRITE and hardware reset writes the enable. -/

@[simp] theorem State.enable_dropFrame (s : State) (k : Nat) : (s.dropFrame k).events.enable = s.events.enable := rfl

@[simp] theorem State.enable_overflowControl (s : State) (c : ControlFrame) (l : List ControlFrame) :
    (s.overflowControl c l).events.enable = s.events.enable := by
  unfold State.overflowControl
  dsimp only
  split <;> rfl

@[simp] theorem State.enable_makeRoom (s : State) : s.makeRoom.events.enable = s.events.enable := by
  unfold State.makeRoom
  split
  case isTrue => rfl
  case isFalse => split <;> simp

@[simp] theorem State.enable_placeControl (s : State) (c : ControlFrame) :
    (s.placeControl c).events.enable = s.events.enable :=
  s.enable_makeRoom

@[simp] theorem State.enable_withdrawStart (s : State) : s.withdrawStart.events.enable = s.events.enable := rfl

@[simp] theorem State.enable_arbitrate (s : State) : s.arbitrate.events.enable = s.events.enable := by
  unfold State.arbitrate
  split
  case h_1 => rfl
  split
  case isFalse => simp
  dsimp only
  split <;> simp

@[simp] theorem enable_settle (b s : State) : (settle b s).events.enable = s.events.enable := by
  unfold settle
  dsimp only
  split <;> simp

/-- GO_OFFLINE may post TX_DROPPED for its WITHDRAW, and keeps the enable (R174). -/
theorem State.enable_goOffline (s : State) : s.goOffline.state.events.enable = s.events.enable := by
  unfold State.goOffline
  split
  case isTrue => rfl
  split <;> simp

/-- RESTART empties the queue and keeps the enable (R175). -/
theorem State.enable_restart (s : State) : s.restart.state.events.enable = s.events.enable := rfl

/-- A take keeps the enable if the command's work does. -/
theorem State.enable_take {work : State → Answer} (s : State)
    (hwork : ∀ u : State, (work u).state.events.enable = u.events.enable) :
    (s.take work).events.enable = s.events.enable :=
  State.take_property (Q := fun u => u.events.enable = s.events.enable) (fun _ _ h => h) rfl
    fun h => (hwork _).trans h

/-- RESTART and GO_OFFLINE keep the enable. -/
theorem enable_of_restart_or_goOffline {s t : State} {c : Instr} (hc : c ∈ [.restart, .goOffline])
    (hexec : exec c s = .next t) : t.events.enable = s.events.enable := by
  simp only [List.mem_cons, List.not_mem_nil, or_false] at hc
  obtain rfl | rfl := hc
  case inl =>
    obtain rfl : settle s (s.take State.restart) = t := Host.Outcome.next.inj hexec
    rw [enable_settle, State.enable_take s State.enable_restart]
  case inr =>
    obtain rfl : settle s (s.take State.goOffline) = t := Host.Outcome.next.inj hexec
    rw [enable_settle, State.enable_take s State.enable_goOffline]

/-- Settles O48: the write, the two words that show the enable, the line, and the commands that clear or keep it. -/
theorem interruptEnableAndLine : Obligations.InterruptEnableAndLine := by
  intro s value hstands
  refine ⟨?write, congrArg (done s) (s.portWrite_enable value), s.portRead_enable, s.getLsbD_partWord_enable,
    s.interruptAsserted_iff, fun _ _ _ _ => ⟨_, rfl, rfl⟩, fun _ _ => enable_of_restart_or_goOffline⟩
  case write =>
    rw [exec_interruptEnableWrite value hstands, ← getLsbD_zero_eq_decide]
    rfl

/-! ## The health counters (R177) -/

/-- The counters are no part of what lets the current frame stand. -/
theorem State.currentStands_readHealth (s : State) : s.readHealth.state.currentStands = s.currentStands := rfl

/-- The counters are no part of what makes work pending. -/
theorem State.workPending_readHealth (s : State) : s.readHealth.state.workPending = s.workPending := rfl

/-- READ_HEALTH taken in IDLE is followed by nothing at the Transmitter. -/
theorem exec_readHealth {s : State} (hstands : s.currentStands = true) (hidle : s.cmd.unit = .idle) :
    exec .readHealth s = .next (s.take State.readHealth) := by
  have hkept : (s.take State.readHealth).currentStands = true := by
    rw [State.take_idle hidle]
    exact (s.setCmd s.cmd.beginTake).currentStands_readHealth.trans hstands
  have hwork : (s.take State.readHealth).workPending = s.workPending := by
    rw [State.take_idle hidle]
    exact (s.setCmd s.cmd.beginTake).workPending_readHealth
  exact congrArg Host.Outcome.next (settle_id hkept hwork)

/-- Settles O57: nothing follows the take, which clears the counters and answers with them. -/
theorem readHealthClears : Obligations.ReadHealthClears := by
  intro s hstands hidle
  rw [exec_readHealth hstands hidle, State.take_idle hidle]
  rfl

end Sys2Proof.Machine
end

section
/-! PROOFS. The rows of the opcode table by what their event is: the writes of the game port come to five kinds of event
(R162, R168, R169), the other rows each have their own. -/

namespace Sys2Proof.Machine

open Sys2Proof.Claims

/-! ## The writes of the game port (R162, R166 to R169) -/

/-- Each of the sixteen commands does what a write of its code to the command word does (R169). -/
theorem exec_of_commandTable {n : Nat} {c : Instr} (h : (n, c) ∈ commandTable) (s : State) :
    exec c s = done s (s.commandWrite (BitVec.ofNat 16 n)) := by
  simp only [commandTable, List.mem_cons, List.not_mem_nil, or_false, Prod.mk.injEq] at h
  rcases h with ⟨rfl, rfl⟩ | ⟨rfl, rfl⟩ | ⟨rfl, rfl⟩ | ⟨rfl, rfl⟩ | ⟨rfl, rfl⟩ | ⟨rfl, rfl⟩ | ⟨rfl, rfl⟩ | ⟨rfl, rfl⟩ |
    ⟨rfl, rfl⟩ | ⟨rfl, rfl⟩ | ⟨rfl, rfl⟩ | ⟨rfl, rfl⟩ | ⟨rfl, rfl⟩ | ⟨rfl, rfl⟩ | ⟨rfl, rfl⟩ | ⟨rfl, rfl⟩ <;> rfl

/-- What a write at a port address is, by the address (R162). -/
theorem State.portWrite_cases (a : BitVec 9) (value : Word) :
    (∀ s : State, s.portWrite a value = s.writeArgument a.toNat value) ∨
      (∀ s : State, s.portWrite a value = s.commandWrite value) ∨
      (∀ s : State, s.portWrite a value = s.writeEnable value) ∨ (∀ s : State, s.portWrite a value = s.releaseHead) ∨
      ∀ s : State, s.portWrite a value = s := by
  unfold State.portWrite
  dsimp only
  split
  case isTrue => exact .inl fun _ => rfl
  split
  case isTrue => exact .inr (.inl fun _ => rfl)
  split
  case isTrue => exact .inr (.inr (.inl fun _ => rfl))
  split
  case isTrue => exact .inr (.inr (.inr (.inl fun _ => rfl)))
  case isFalse => exact .inr (.inr (.inr (.inr fun _ => rfl)))

/-- An unknown code is taken as a write of it is; a code that names a command is not this row's (R168). -/
theorem exec_unknownCommand_cases (code : Word) :
    (∀ s, exec (.unknownCommand code) s = done s (s.commandWrite code)) ∨
      ∀ s, exec (.unknownCommand code) s = done s s := by
  cases h : commandOf code with
  | none => exact .inl fun s => by simp [exec, execUnknownCommand, State.commandWrite, h]
  | some w => exact .inr fun s => by simp [exec, execUnknownCommand, h]

/-! ## A row and what its event brings about -/

/-- What the settling of an event keeps holds after a row whose event brings it about. -/
theorem of_done {P : State → Prop} {s u t : State} (h : done s u = .next t) (hsettle : P u → P (settle s u))
    (hu : P u) : P t :=
  Host.Outcome.next.inj h ▸ hsettle hu

/-- The rows of the table, the writes of the game port taken together by the event they come to. -/
theorem row_induction {P : Instr → Prop}
    (write : ∀ c code, (∀ s, exec c s = done s (s.commandWrite code)) → P c)
    (argument : ∀ c i value, (∀ s, exec c s = done s (s.writeArgument i value)) → P c)
    (enable : ∀ c value, (∀ s, exec c s = done s (s.writeEnable value)) → P c)
    (release : ∀ c, (∀ s, exec c s = done s s.releaseHead) → P c)
    (nothing : ∀ c, (∀ s, exec c s = done s s) → P c)
    (commandLost : ∀ code, P (.commandLost code))
    (commandCompletion : P .commandCompletion)
    (hardwareReset : ∀ station rate low memory, P (.hardwareReset station rate low memory))
    (loadCompletion : P .loadCompletion)
    (candidatePulse : P .candidatePulse)
    (frameInputLevelConfirmed : ∀ high, P (.frameInputLevelConfirmed high))
    (frameAbsentTimerExpiry : P .frameAbsentTimerExpiry)
    (buildEntryRead : P .buildEntryRead)
    (buildCompletion : P .buildCompletion)
    (lineBusy : P .lineBusy)
    (idleGap : P .idleGap)
    (startDelimiterRecognised : P .startDelimiterRecognised)
    (frameBroken : P .frameBroken)
    (frameCompletion : ∀ bytes, P (.frameCompletion bytes))
    (startOpportunity : P .startOpportunity)
    (readBackWhole : P .readBackWhole)
    (collision : P .collision)
    (stuckWatchExpiry : P .stuckWatchExpiry)
    (callCadenceTimerExpiry : P .callCadenceTimerExpiry)
    (reportSpacingTimerExpiry : P .reportSpacingTimerExpiry)
    (resendTimerExpiry : P .resendTimerExpiry)
    (presenceTimerExpiry : ∀ p, P (.presenceTimerExpiry p))
    (lostTimerExpiry : ∀ p, P (.lostTimerExpiry p))
    (silenceTimerExpiry : P .silenceTimerExpiry)
    (lobbyTimerExpiry : P .lobbyTimerExpiry)
    (lockTimerExpiry : P .lockTimerExpiry)
    (greenTimerExpiry : P .greenTimerExpiry)
    (graceCloseTimerExpiry : P .graceCloseTimerExpiry)
    (limitCloseTimerExpiry : P .limitCloseTimerExpiry)
    (resultsCeilingTimerExpiry : P .resultsCeilingTimerExpiry)
    (blinkTimerExpiry : P .blinkTimerExpiry)
    (lampStepTimerExpiry : ∀ k, P (.lampStepTimerExpiry k))
    (lampGreenTimerExpiry : P .lampGreenTimerExpiry)
    (holdTimerExpiry : P .holdTimerExpiry)
    (c : Instr) : P c := by
  have table : ∀ {n c}, (n, c) ∈ commandTable → P c := fun h => write _ _ (exec_of_commandTable h)
  cases c
  case configure => exact table (n := 1) (by decide)
  case readConfig => exact table (n := 2) (by decide)
  case goOnline => exact table (n := 3) (by decide)
  case goOffline => exact table (n := 4) (by decide)
  case restart => exact table (n := 5) (by decide)
  case enter => exact table (n := 6) (by decide)
  case cancelEntry => exact table (n := 7) (by decide)
  case postCar => exact table (n := 8) (by decide)
  case lap => exact table (n := 9) (by decide)
  case quit => exact table (n := 10) (by decide)
  case openImage => exact table (n := 11) (by decide)
  case readResults => exact table (n := 12) (by decide)
  case ackResults => exact table (n := 13) (by decide)
  case readPeer => exact table (n := 14) (by decide)
  case readHealth => exact table (n := 15) (by decide)
  case setOutput => exact table (n := 16) (by decide)
  case eventRelease => exact release _ fun _ => rfl
  case interruptEnableWrite value => exact enable _ value fun _ => rfl
  case unknownCommand code =>
    obtain h | h := exec_unknownCommand_cases code
    · exact write _ code h
    · exact nothing _ h
  case portWrite a value =>
    obtain h | h | h | h | h := State.portWrite_cases a value
    · exact argument _ a.toNat value fun s => congrArg (done s) (h s)
    · exact write _ value fun s => congrArg (done s) (h s)
    · exact enable _ value fun s => congrArg (done s) (h s)
    · exact release _ fun s => congrArg (done s) (h s)
    · exact nothing _ fun s => congrArg (done s) (h s)
  all_goals
    clear write argument enable release nothing table
    apply_assumption

/-- Every row but HARDWARE_RESET is an event that ends in a settling. -/
theorem exec_eq_done (c : Instr) :
    (∃ station rate low memory, c = .hardwareReset station rate low memory) ∨ ∀ s, ∃ u, exec c s = done s u := by
  cases c
  case hardwareReset => exact .inl ⟨_, _, _, _, rfl⟩
  all_goals exact .inr fun _ => ⟨_, rfl⟩

end Sys2Proof.Machine
end

section
/-! PROOFS. Every step keeps the bounds of the Event Queue (R181). -/

namespace Sys2Proof.Machine

open Sys2Proof.Claims

/-- A write of a code keeps the queue bounded, whatever the code. -/
theorem State.commandWrite_bounded {s : State} (code : Word) (hs : s.events.bounded) :
    (s.commandWrite code).events.bounded := by
  refine State.take_property (Q := fun u => u.events.bounded) (fun _ _ h => h) hs ?_
  apply command_induction (P := fun w => ∀ {u : State}, u.events.bounded → (w u).state.events.bounded)
  case h4 => exact State.goOffline_bounded
  case h5 => exact State.restart_bounded
  case h9 => exact State.lap_bounded
  case h10 => exact State.quit_bounded
  case h13 => exact State.ackResults_bounded
  all_goals exact fun hu => by simpa using hu

/-- A row whose event keeps the queue bounded. -/
theorem bounded_of_done {s u t : State} (h : done s u = .next t) (hu : u.events.bounded) : t.events.bounded :=
  of_done (P := fun v => v.events.bounded) h settle_bounded hu

/-- Every row keeps the queue bounded: what it posts, it posts through the operations that do. -/
theorem exec_bounded {c : Instr} {s t : State} (hs : s.events.bounded) (h : exec c s = .next t) :
    t.events.bounded := by
  cases c using row_induction
  case hardwareReset =>
    cases h
    exact ⟨Nat.zero_le _, rfl, fun _ => Nat.zero_le _⟩
  case write code hrow => exact bounded_of_done ((hrow s).symm.trans h) (State.commandWrite_bounded code hs)
  case argument hrow => exact bounded_of_done ((hrow s).symm.trans h) hs
  case enable hrow => exact bounded_of_done ((hrow s).symm.trans h) hs
  case release hrow => exact bounded_of_done ((hrow s).symm.trans h) (tail_bounded _ hs)
  case nothing hrow => exact bounded_of_done ((hrow s).symm.trans h) hs
  all_goals refine bounded_of_done h ?_
  case loadCompletion =>
    split
    · simpa using State.putLoaded_bounded hs
    · exact hs
  case candidatePulse | frameInputLevelConfirmed =>
    repeat' split
    all_goals first | exact hs | exact State.candidatePulse_bounded _ hs
  case frameAbsentTimerExpiry =>
    split
    · exact State.post_bounded (by simpa using hs)
    · exact hs
  case idleGap =>
    split
    · exact State.clearStuck_bounded (by simpa using hs)
    · exact hs
  case frameCompletion =>
    repeat' split
    all_goals first | exact hs | exact State.hear_bounded _ _ hs
  case startOpportunity =>
    split
    · exact State.arbitrate_bounded (by simpa using hs)
    · exact hs
  case readBackWhole =>
    repeat' split
    all_goals first | exact hs | exact State.readBack_bounded _ hs
  case collision =>
    repeat' split
    all_goals first | exact hs | exact State.collide_bounded hs
  case stuckWatchExpiry | silenceTimerExpiry =>
    repeat' split
    all_goals first | exact hs | exact State.post_bounded hs
  case presenceTimerExpiry =>
    dsimp only
    repeat' split
    all_goals first | exact hs | exact State.post_bounded hs
  case lostTimerExpiry =>
    dsimp only
    repeat' split
    all_goals first | exact hs | exact State.closeIfAllDone_bounded (State.post_bounded hs)
  case lobbyTimerExpiry =>
    repeat' split
    all_goals first | exact hs | exact State.lobbyExpiry_bounded _ hs
  case greenTimerExpiry =>
    repeat' split
    all_goals first | exact hs | exact State.goGreen_bounded _ hs
  case graceCloseTimerExpiry | limitCloseTimerExpiry =>
    repeat' split
    all_goals first | exact hs | exact State.close_bounded _ _ hs
  all_goals
    repeat' split
    all_goals simpa using hs

/-- Settles O4: every row keeps the bounds, and so does the passage of time, which posts nothing. -/
theorem stepKeepsEventQueueBounded : Obligations.StepKeepsEventQueueBounded := fun _ _ hs =>
  step_invariant (P := fun s => s.events.bounded) (fun _ _ h => h) (fun _ _ h => h)
    (fun s h => by simpa using h) (fun _ _ _ => exec_bounded) hs

end Sys2Proof.Machine
end

section
/-! PROOFS. Every step keeps the settings in their ranges (R189). -/

namespace Sys2Proof.Machine

open Sys2Proof.Claims

/-! ## Values brought into their ranges (R189, R191) -/

/-- A value brought into a range lies in it. -/
theorem clampTo_within {lo hi : Nat} (h : lo ≤ hi) (v : Nat) : within lo hi (clampTo lo hi v) := by
  unfold within clampTo
  split
  case isTrue => exact ⟨Nat.le_refl _, h⟩
  split
  case isTrue => exact ⟨h, Nat.le_refl _⟩
  case isFalse hlow hhigh => exact ⟨Nat.not_lt.mp hlow, Nat.not_lt.mp hhigh⟩

theorem Settings.factory_inRange : Settings.factory.inRange := by
  refine ⟨?_, ?_, ?_, ?_, ?_, ?_, ?_, ?_, ?_, ?_, ?_, ?_, ?_, fun i => ?_⟩
  case refine_14 => match i with
    | 0 | 1 | 2 | 3 => exact ⟨by decide, by decide⟩
  all_goals exact ⟨by decide, by decide⟩

/-- The settings the configuration memory gives lie in their ranges, whatever its bytes (R189). -/
theorem settingsOfMemory_inRange (m : List Byte) : (settingsOfMemory m).inRange := by
  refine ⟨?_, ?_, ?_, ?_, ?_, ?_, ?_, ?_, ?_, ?_, ?_, ?_, ?_, fun i => ?_⟩
  case refine_14 =>
    rw [settingsOfMemory, Four.get_ofFn]
    exact clampTo_within (by decide) _
  all_goals exact clampTo_within (by decide) _

/-- The settings of group 0, taken from any buffer, lie in their ranges (R191). -/
theorem Settings.takeGroupZero_inRange {t : Settings} (h : t.inRange) (low : Bool) (b : List Word) :
    (t.takeGroupZero low b).inRange := by
  obtain ⟨-, -, -, -, -, -, -, -, -, -, -, -, hhold, hsteps⟩ := h
  refine ⟨?_, ?_, ?_, ?_, ?_, ?_, ?_, ?_, ?_, ?_, ?_, ?_, hhold, hsteps⟩
  all_goals exact clampTo_within (by decide) _

/-- The settings of group 1, taken from any buffer, lie in their ranges (R191). -/
theorem Settings.takeGroupOne_inRange {t : Settings} (h : t.inRange) (b : List Word) : (t.takeGroupOne b).inRange := by
  obtain ⟨h1, h2, h3, h4, h5, h6, h7, h8, h9, h10, h11, h12, -, -⟩ := h
  refine ⟨h1, h2, h3, h4, h5, h6, h7, h8, h9, h10, h11, h12, clampTo_within (by decide) _, fun i => ?_⟩
  rw [takeGroupOne, Four.get_ofFn]
  match i with
  | 0 | 1 | 2 | 3 => exact clampTo_within (by decide) _

/-! ## The rows that put settings in force -/

theorem State.configure_inRange {s : State} (h : s.settings.inRange) : s.configure.state.settings.inRange := by
  unfold State.configure
  split
  case isTrue => exact h
  split
  case isTrue => exact Settings.takeGroupZero_inRange h _ _
  split
  case isTrue => exact Settings.takeGroupOne_inRange h _
  case isFalse => exact h

theorem State.putLoaded_inRange (s : State) : s.putLoaded.settings.inRange := by
  unfold State.putLoaded
  split
  · exact settingsOfMemory_inRange _
  · exact Settings.factory_inRange
  · exact Settings.factory_inRange

/-- A write of a code keeps the settings in range: CONFIGURE limits what it takes, and no other command takes any. -/
theorem State.commandWrite_inRange {s : State} (code : Word) (hs : s.settings.inRange) :
    (s.commandWrite code).settings.inRange := by
  refine State.take_property (Q := fun u => u.settings.inRange) (fun _ _ h => h) hs ?_
  apply command_induction (P := fun w => ∀ {u : State}, u.settings.inRange → (w u).state.settings.inRange)
  case h1 => exact State.configure_inRange
  all_goals exact fun hu => by simpa using hu

/-- A row whose event keeps the settings in range. -/
theorem inRange_of_done {s u t : State} (h : done s u = .next t) (hu : u.settings.inRange) : t.settings.inRange :=
  of_done (P := fun v => v.settings.inRange) h (fun hv => by simpa using hv) hu

/-- Every row keeps the settings in range. -/
theorem exec_inRange {c : Instr} {s t : State} (hs : s.settings.inRange) (h : exec c s = .next t) :
    t.settings.inRange := by
  cases c using row_induction
  case hardwareReset =>
    cases h
    exact Settings.factory_inRange
  case write code hrow => exact inRange_of_done ((hrow s).symm.trans h) (State.commandWrite_inRange code hs)
  case argument hrow => exact inRange_of_done ((hrow s).symm.trans h) hs
  case enable hrow => exact inRange_of_done ((hrow s).symm.trans h) hs
  case release hrow => exact inRange_of_done ((hrow s).symm.trans h) hs
  case nothing hrow => exact inRange_of_done ((hrow s).symm.trans h) hs
  all_goals refine inRange_of_done h ?_
  case loadCompletion =>
    split
    · exact s.putLoaded_inRange
    · exact hs
  case presenceTimerExpiry | lostTimerExpiry =>
    dsimp only
    repeat' split
    all_goals simpa using hs
  all_goals
    repeat' split
    all_goals simpa using hs

theorem step_inRange {s t : State} (hs : s.settings.inRange) (h : step s = .next t) : t.settings.inRange :=
  step_invariant (P := fun s => s.settings.inRange) (fun _ _ h => h) (fun _ _ h => h)
    (fun s h => by simpa using h) (fun _ _ _ => exec_inRange) hs h

end Sys2Proof.Machine
end

section
/-! PROOFS. Every step keeps Frame Capture coherent (R8 to R12). -/

namespace Sys2Proof.Machine

open Sys2Proof.Claims

/-! ## Linked lists -/

/-- A relation that links a list links what is left of it after a drop. -/
theorem linked_drop {α : Type} {r : α → α → Prop} {l : List α} (h : linked r l) (n : Nat) : linked r (l.drop n) := by
  induction n generalizing l with
  | zero => exact h
  | succ n ih =>
    match l, h with
    | [], _ => trivial
    | [_], _ => simpa using ih (l := []) trivial
    | _ :: _ :: _, h => exact ih h.2

/-- An element that the last one stands in the relation to joins a linked list. -/
theorem linked_concat {α : Type} {r : α → α → Prop} {l : List α} {x : α} (h : linked r l)
    (hx : ∀ y, l.getLast? = some y → r y x) : linked r (l ++ [x]) := by
  induction l with
  | nil => trivial
  | cons a l ih =>
    cases l with
    | nil => exact ⟨hx a rfl, trivial⟩
    | cons b l => exact ⟨h.1, ih h.2 fun y hy => hx y (by simpa using hy)⟩

/-! ## The history of an accepted pulse (R7, R9, R12) -/

/-- A list's last eight entries end as the list does. -/
theorem getLast?_lastEight_concat {α : Type} (l : List α) (x : α) : (lastEight (l ++ [x])).getLast? = some x := by
  unfold lastEight
  have hlong : ¬ (l ++ [x]).length ≤ (l ++ [x]).length - 8 := by
    rw [List.length_append, List.length_singleton]
    omega
  rw [List.getLast?_drop, if_neg hlong, List.getLast?_concat]

theorem length_lastEight_le {α : Type} (l : List α) : (lastEight l).length ≤ 8 := by
  unfold lastEight
  rw [List.length_drop]
  omega

/-- Acceptance in PRESENT keeps Frame Capture coherent: the new entry follows the newest. -/
theorem FrameCapture.acceptPresent_coherent {f : FrameCapture} {c : Instant} (h : f.coherent)
    (hinput : f.input = .present) (haccepts : f.accepts c = true) : (f.acceptPresent c).coherent := by
  obtain ⟨-, hlinked, hstate⟩ := h
  rw [hinput] at hstate
  obtain ⟨c₀, hlast, hnewest, -⟩ := hstate
  refine ⟨length_lastEight_le _, linked_drop (linked_concat hlinked fun y hy => ?_) _, ?_⟩
  · rw [hnewest, Option.some.injEq] at hy
    subst hy
    exact ⟨rfl, by simpa [accepts, hlast] using haccepts⟩
  · simp only [acceptPresent, hinput]
    exact ⟨c, rfl, getLast?_lastEight_concat _ _, rfl⟩

/-- Acceptance in ABSENT starts a history of one. -/
theorem FrameCapture.acceptAbsent_coherent (f : FrameCapture) (c : Instant) : (f.acceptAbsent c).coherent :=
  ⟨by simp [acceptAbsent], trivial, c, rfl, rfl, rfl⟩

/-- A candidate keeps Frame Capture coherent, accepted or ignored. -/
theorem State.candidatePulse_coherent {s : State} {c : Instant} (h : s.frame.coherent) :
    (s.candidatePulse c).frame.coherent := by
  unfold State.candidatePulse
  split
  case h_1 => simpa using s.frame.acceptAbsent_coherent c
  case h_2 hinput =>
    split
    case isTrue haccepts => simpa using FrameCapture.acceptPresent_coherent h hinput haccepts
    case isFalse => exact h

/-- Whether Frame Capture is coherent is not a matter of the samples and the confirmed level. -/
theorem State.confirmCandidate_coherent {s : State} (h : s.frame.coherent) : s.confirmCandidate.frame.coherent :=
  State.candidatePulse_coherent (s := s.setFrame (s.frame.confirm false)) h

theorem FrameCapture.goAbsent_coherent (f : FrameCapture) : f.goAbsent.coherent :=
  ⟨Nat.zero_le _, trivial, rfl, rfl, rfl⟩

theorem FrameCapture.sample_coherent {f : FrameCapture} (h : f.coherent) (next : Bool) : (f.sample next).coherent := by
  unfold sample
  split
  · exact h
  · exact h

/-! ## The rows -/

/-- No command of the game port touches Frame Capture. -/
theorem State.frame_commandWrite (s : State) (code : Word) : (s.commandWrite code).frame = s.frame := by
  refine State.take_property (Q := fun u => u.frame = s.frame) (fun _ _ h => h) rfl ?_
  apply command_induction (P := fun w => ∀ {u : State}, u.frame = s.frame → (w u).state.frame = s.frame)
  all_goals exact fun hu => by simpa using hu

/-- A row whose event keeps Frame Capture coherent. -/
theorem frame_of_done {s u t : State} (h : done s u = .next t) (hu : u.frame.coherent) : t.frame.coherent :=
  of_done (P := fun v => v.frame.coherent) h (fun hv => by simpa using hv) hu

/-- Every row keeps Frame Capture coherent. -/
theorem exec_frame_coherent {c : Instr} {s t : State} (hs : s.frame.coherent) (h : exec c s = .next t) :
    t.frame.coherent := by
  cases c using row_induction
  case hardwareReset =>
    cases h
    exact ⟨Nat.zero_le _, trivial, rfl, rfl, rfl⟩
  case write code hrow =>
    exact frame_of_done ((hrow s).symm.trans h) (by rw [State.frame_commandWrite]; exact hs)
  case argument hrow => exact frame_of_done ((hrow s).symm.trans h) hs
  case enable hrow => exact frame_of_done ((hrow s).symm.trans h) hs
  case release hrow => exact frame_of_done ((hrow s).symm.trans h) hs
  case nothing hrow => exact frame_of_done ((hrow s).symm.trans h) hs
  all_goals refine frame_of_done h ?_
  case loadCompletion =>
    split
    · have hkept : s.putLoaded.frame = s.frame := by simp
      show FrameCapture.coherent { s.putLoaded.frame with sampling := true }
      rw [hkept]
      exact hs
    · exact hs
  case candidatePulse | frameInputLevelConfirmed =>
    repeat' split
    all_goals first | exact hs | exact State.confirmCandidate_coherent hs
  case frameAbsentTimerExpiry =>
    split
    · simpa using s.frame.goAbsent_coherent
    · exact hs
  case presenceTimerExpiry | lostTimerExpiry =>
    dsimp only
    repeat' split
    all_goals simpa using hs
  all_goals
    repeat' split
    all_goals simpa using hs

theorem step_frame_coherent {s t : State} (hs : s.frame.coherent) (h : step s = .next t) : t.frame.coherent :=
  step_invariant (P := fun s => s.frame.coherent) (fun _ _ h => h) (fun _ _ h => h)
    (fun s h => by rw [State.advance_frame]; exact FrameCapture.sample_coherent h _) (fun _ _ _ => exec_frame_coherent) hs h

end Sys2Proof.Machine
end

section
/-! PROOFS. Every step keeps the image banks coherent (R136). -/

namespace Sys2Proof.Machine

open Sys2Proof.Claims

/-! ## Counting banks (R136) -/

/-- After one function is applied to each bank, a test counts the banks whose image under it passes. -/
theorem ImageBuilder.count_mapBanks (b : ImageBuilder) {g : Bank → Bank} {f f' : Bank → Bool}
    (h : ∀ k, f (g k) = f' k) : (b.mapBanks g).count f = b.count f' := by
  rw [show f' = f ∘ g from (funext h).symm]
  exact List.countP_map (p := f) (f := g) (l := b.banks)

/-- No bank passes a test that the function brings none to pass. -/
theorem ImageBuilder.count_mapBanks_eq_zero (b : ImageBuilder) {g : Bank → Bank} {f : Bank → Bool}
    (h : ∀ k, f (g k) = false) : (b.mapBanks g).count f = 0 :=
  (b.count_mapBanks h).trans (List.countP_eq_zero.mpr fun _ _ => Bool.false_ne_true)

/-- The count of the banks that are FILLING, by whether a build is in progress. -/
theorem ImageBuilder.coherent.filling_of_none {b : ImageBuilder} (h : b.coherent) (hbuild : b.build = none) :
    b.count (fun k => k.fillingImage.isSome) = 0 := by
  obtain ⟨-, -, hfilling⟩ := h
  rw [hfilling, hbuild]
  rfl

/-! ## The operations on the banks -/

/-- A bank that starts FILLING was FREE, so it is one more of those alone (R137). -/
theorem ImageBuilder.count_fill {b b' : ImageBuilder} {i : Image} (h : b.fill i = some b') :
    b'.count (fun k => k.readyImage.isSome) = b.count (fun k => k.readyImage.isSome) ∧
      b'.count (fun k => k.openImage.isSome) = b.count (fun k => k.openImage.isSome) ∧
      b'.count (fun k => k.fillingImage.isSome) = b.count (fun k => k.fillingImage.isSome) + 1 := by
  unfold fill at h
  split at h
  case h_4 => cases h
  all_goals
    cases h
    simp only [count, banks, List.countP_cons, List.countP_nil, *]
    refine ⟨rfl, rfl, ?_⟩
    simp only [show (Bank.fillingImage .free).isSome = false from rfl,
      show (Bank.fillingImage (.filling i)).isSome = true from rfl, if_true, Bool.false_eq_true, if_false]
  all_goals omega

/-- The start of a build keeps the banks coherent (R137). -/
theorem ImageBuilder.fill_coherent {b b' : ImageBuilder} {i : Image} {n : Build} (h : b.coherent)
    (hbuild : b.build = none) (hfill : b.fill i = some b') : ({ b' with build := some n } : ImageBuilder).coherent := by
  obtain ⟨hready, hopened, hfilling⟩ := ImageBuilder.count_fill hfill
  refine ⟨hready ▸ h.1, hopened ▸ h.2.1, ?_⟩
  exact hfilling.trans (by rw [h.filling_of_none hbuild]; rfl)

/-- The FILLING image replaced: each bank stays of its kind. -/
theorem ImageBuilder.count_write {f : Bank → Bool} (b : ImageBuilder) (i : Image)
    (h : ∀ j, f (.filling i) = f (.filling j)) : (b.write i).count f = b.count f :=
  b.count_mapBanks fun k => by cases k <;> first | exact h _ | rfl

/-- A read of an entry keeps the banks coherent (R138). -/
theorem ImageBuilder.write_coherent {b : ImageBuilder} {n m : Build} (h : b.coherent) (hbuild : b.build = some n)
    (i : Image) : ({ b.write i with build := some m } : ImageBuilder).coherent := by
  obtain ⟨hready, hopened, hfilling⟩ := h
  refine ⟨Nat.le_trans (Nat.le_of_eq (b.count_write i fun _ => rfl)) hready,
    Nat.le_trans (Nat.le_of_eq (b.count_write i fun _ => rfl)) hopened, ?_⟩
  exact (b.count_write i fun _ => rfl).trans (hfilling.trans (by rw [hbuild]; rfl))

/-- What the completion of a build makes of a bank (R140). -/
def Bank.afterCompletion : Bank → Bank
  | .filling i => .ready i.complete
  | .ready _ => .free
  | .opened i => .opened i
  | .free => .free

theorem ImageBuilder.completeBuild_eq (b : ImageBuilder) :
    b.completeBuild = { b.mapBanks Bank.afterCompletion with build := none } :=
  congrArg (fun g => ({ b.mapBanks g with build := none } : ImageBuilder)) (funext fun k => by cases k <;> rfl)

/-- The banks that are READY after a completion are those that were FILLING, and none is FILLING (R140). -/
theorem ImageBuilder.count_completeBuild (b : ImageBuilder) :
    b.completeBuild.count (fun k => k.readyImage.isSome) = b.count (fun k => k.fillingImage.isSome) ∧
      b.completeBuild.count (fun k => k.openImage.isSome) = b.count (fun k => k.openImage.isSome) ∧
      b.completeBuild.count (fun k => k.fillingImage.isSome) = 0 := by
  have hcount : ∀ f, b.completeBuild.count f = (b.mapBanks Bank.afterCompletion).count f := fun f => by
    rw [completeBuild_eq]
    rfl
  rw [hcount, hcount, hcount]
  refine ⟨b.count_mapBanks fun k => ?_, b.count_mapBanks fun k => ?_, b.count_mapBanks_eq_zero fun k => ?_⟩
  all_goals cases k <;> rfl

/-- Completion keeps the banks coherent. -/
theorem ImageBuilder.completeBuild_coherent {b : ImageBuilder} {n : Build} (h : b.coherent)
    (hbuild : b.build = some n) : b.completeBuild.coherent := by
  obtain ⟨-, hopened, hfilling⟩ := h
  obtain ⟨hready', hopened', hfilling'⟩ := b.count_completeBuild
  rw [hbuild] at hfilling
  exact ⟨Nat.le_of_eq (hready'.trans hfilling), Nat.le_trans (Nat.le_of_eq hopened') hopened, hfilling'⟩

/-- The banks that are OPEN after an opening are those that were READY, and none is READY (R144). -/
theorem ImageBuilder.count_afterOpening (b : ImageBuilder) :
    (b.mapBanks Bank.afterOpening).count (fun k => k.readyImage.isSome) = 0 ∧
      (b.mapBanks Bank.afterOpening).count (fun k => k.openImage.isSome) = b.count (fun k => k.readyImage.isSome) ∧
      (b.mapBanks Bank.afterOpening).count (fun k => k.fillingImage.isSome) =
        b.count (fun k => k.fillingImage.isSome) := by
  refine ⟨b.count_mapBanks_eq_zero fun k => ?_, b.count_mapBanks fun k => ?_, b.count_mapBanks fun k => ?_⟩
  all_goals cases k <;> rfl

/-- Opening keeps the banks coherent. -/
theorem ImageBuilder.openReady_coherent {b : ImageBuilder} (h : b.coherent) : b.openReady.coherent := by
  cases hsome : b.ready with
  | none => rwa [openReady_of_none hsome]
  | some i =>
    obtain ⟨hready, -, hfilling⟩ := h
    rw [openReady_of_some hsome]
    obtain ⟨hready', hopened', hfilling'⟩ := b.count_afterOpening
    exact ⟨Nat.le_trans (Nat.le_of_eq hready') (Nat.zero_le _), Nat.le_trans (Nat.le_of_eq hopened') hready,
      hfilling'.trans hfilling⟩

theorem ImageBuilder.initial_coherent : ImageBuilder.initial.coherent := ⟨by decide, by decide, by decide⟩

/-! ## The events that use them -/

theorem State.startBuild_coherent {s : State} (n : Word) (f : Instant) (h : s.image.coherent) :
    (s.startBuild n f).image.coherent := by
  unfold State.startBuild
  split
  case h_1 hbuild hfill => exact ImageBuilder.fill_coherent h hbuild hfill
  case h_2 => exact h

theorem State.requestBuild_coherent {s : State} (c : Instant) (h : s.image.coherent) :
    (s.requestBuild c).image.coherent := by
  unfold State.requestBuild
  split
  · exact h
  · exact State.startBuild_coherent _ _ h

/-- A candidate keeps the banks coherent, accepted or ignored. -/
theorem State.confirmCandidate_banks {s : State} (h : s.image.coherent) : s.confirmCandidate.image.coherent := by
  unfold State.confirmCandidate State.candidatePulse
  dsimp only
  split
  case h_1 => exact State.requestBuild_coherent _ (by simpa using h)
  case h_2 =>
    split
    · exact State.requestBuild_coherent _ (by simpa using h)
    · exact h

theorem State.commandWrite_banks {s : State} (code : Word) (hs : s.image.coherent) :
    (s.commandWrite code).image.coherent := by
  refine State.take_property (Q := fun u => u.image.coherent) (fun _ _ h => h) hs ?_
  apply command_induction (P := fun w => ∀ {u : State}, u.image.coherent → (w u).state.image.coherent)
  case h5 => exact fun _ => ImageBuilder.initial_coherent
  case h11 => exact ImageBuilder.openReady_coherent
  all_goals exact fun hu => by simpa using hu

/-- A row whose event keeps the banks coherent. -/
theorem banks_of_done {s u t : State} (h : done s u = .next t) (hu : u.image.coherent) : t.image.coherent :=
  of_done (P := fun v => v.image.coherent) h (fun hv => by simpa using hv) hu

/-- Every row keeps the banks coherent. -/
theorem exec_banks_coherent {c : Instr} {s t : State} (hs : s.image.coherent) (h : exec c s = .next t) :
    t.image.coherent := by
  cases c using row_induction
  case hardwareReset =>
    cases h
    exact ImageBuilder.initial_coherent
  case write code hrow => exact banks_of_done ((hrow s).symm.trans h) (State.commandWrite_banks code hs)
  case argument hrow => exact banks_of_done ((hrow s).symm.trans h) hs
  case enable hrow => exact banks_of_done ((hrow s).symm.trans h) hs
  case release hrow => exact banks_of_done ((hrow s).symm.trans h) hs
  case nothing hrow => exact banks_of_done ((hrow s).symm.trans h) hs
  all_goals refine banks_of_done h ?_
  case candidatePulse | frameInputLevelConfirmed =>
    repeat' split
    all_goals first | exact hs | exact State.confirmCandidate_banks hs
  case buildEntryRead =>
    split
    case h_1 hbuild _ =>
      split
      · exact ImageBuilder.write_coherent hs hbuild _
      · exact hs
    case h_2 => exact hs
  case buildCompletion =>
    split
    case h_1 hbuild =>
      split
      · exact hs
      · exact ImageBuilder.completeBuild_coherent hs hbuild
    case h_2 => exact hs
  case presenceTimerExpiry | lostTimerExpiry =>
    dsimp only
    repeat' split
    all_goals simpa using hs
  all_goals
    repeat' split
    all_goals simpa using hs

theorem step_banks_coherent {s t : State} (hs : s.image.coherent) (h : step s = .next t) : t.image.coherent :=
  step_invariant (P := fun s => s.image.coherent) (fun _ _ h => h) (fun _ _ h => h)
    (fun s h => by simpa using h) (fun _ _ _ => exec_banks_coherent) hs h

end Sys2Proof.Machine
end

section
/-! PROOFS. Every step keeps the Command Unit's buffers and replies at 16 words or fewer (R164, R165). -/

namespace Sys2Proof.Machine

open Sys2Proof.Claims

/-! ## The lengths of the replies (R165) -/

@[simp] theorem length_wordPair (low : Bool) (x : BitVec 32) : (wordPair low x).length = 2 := by
  cases low <;> rfl

@[simp] theorem Settings.length_groupZero (t : Settings) (p : Straps) : (t.groupZero p).length = 16 := by
  simp [groupZero]

@[simp] theorem Settings.length_groupOne (t : Settings) (d : Bool) : (t.groupOne d).length = 12 := by
  simp [groupOne, pins]

@[simp] theorem length_resultsReply (low final : Bool) (l : List ResultRecord) (n : Nat) (r : ResultRecord) :
    (resultsReply low final l n r).length = 13 := by
  simp [resultsReply]

@[simp] theorem State.length_peerWords (s : State) (p : Station) : (s.peerWords p).length = 7 := by
  simp [peerWords]

@[simp] theorem ImageBuilder.length_openReply (b : ImageBuilder) : b.openReply.length = 2 := by
  unfold openReply
  split <;> rfl

/-- No reply exceeds the reply buffer. -/
theorem length_reply_le (code : Word) (s : State) :
    (((commandOf code).getD State.unknownCommand) s).reply.length ≤ 16 := by
  apply command_induction (P := fun w => (w s).reply.length ≤ 16)
  case h1 =>
    unfold State.configure
    repeat' split
    all_goals simp [State.refuse, State.putSettings]
  case h2 =>
    unfold State.readConfig
    repeat' split
    all_goals simp [State.refuse]
  case h3 =>
    unfold State.goOnline
    repeat' split
    all_goals exact Nat.zero_le _
  case h4 =>
    unfold State.goOffline
    repeat' split
    all_goals exact Nat.zero_le _
  case h5 => exact Nat.zero_le _
  case h6 =>
    unfold State.enter
    repeat' split
    all_goals exact Nat.zero_le _
  case h7 =>
    unfold State.cancelEntry
    repeat' split
    all_goals exact Nat.zero_le _
  case h8 =>
    unfold State.takePostCar
    repeat' split
    all_goals simp [State.refuse]
  case h9 =>
    unfold State.lap
    dsimp only
    repeat' split
    all_goals exact Nat.zero_le _
  case h10 =>
    unfold State.quit
    repeat' split
    all_goals exact Nat.zero_le _
  case h11 => simp [State.openImage]
  case h12 =>
    unfold State.readResults
    repeat' split
    all_goals simp [State.refuse]
  case h13 =>
    unfold State.ackResults
    repeat' split
    all_goals exact Nat.zero_le _
  case h14 =>
    unfold State.readPeer
    split
    all_goals simp [State.refuse]
  case h15 => simp [State.readHealth]
  case h16 =>
    unfold State.setOutput
    repeat' split
    all_goals simp [State.refuseOutput, State.driveOutput]
  case h0 => exact Nat.zero_le _

/-! ## The take and the completion -/

/-- No command's work writes the Command Unit. -/
theorem cmd_of_command (code : Word) (s : State) :
    (((commandOf code).getD State.unknownCommand) s).state.cmd = s.cmd := by
  apply command_induction (P := fun w => (w s).state.cmd = s.cmd)
  all_goals simp

/-- The Command Unit after a code is taken (R166). -/
theorem State.cmd_commandWrite_of_idle {s : State} (h : s.cmd.unit = .idle) (code : Word) :
    ∃ r reply, reply.length ≤ 16 ∧ (s.commandWrite code).cmd = taken s r reply := by
  refine ⟨(((commandOf code).getD State.unknownCommand) (s.setCmd s.cmd.beginTake)).result, _,
    length_reply_le code (s.setCmd s.cmd.beginTake), ?_⟩
  rw [State.commandWrite, State.take_idle h, State.cmd_setCmd, cmd_of_command]
  rfl

/-- The Command Unit after a code is lost (R167). -/
theorem State.cmd_commandWrite_of_not_idle {s : State} (h : s.cmd.unit ≠ .idle) (code : Word) :
    (s.commandWrite code).cmd = { s.cmd with lost := true } := by
  rw [State.commandWrite, State.take_lost h, State.cmd_setCmd]

/-- A take with a reply of at most 16 words keeps the unit coherent. -/
theorem taken_coherent {s : State} (h : s.cmd.coherent) {r : Result} {reply : List Word} (hlen : reply.length ≤ 16) :
    (taken s r reply).coherent := by
  obtain ⟨harguments, hreply, hlength, -⟩ := h
  refine ⟨harguments, hreply, hlength, fun _ _ _ hbusy => ?_⟩
  cases hbusy
  exact hlen

theorem State.commandWrite_cmd_coherent {s : State} (code : Word) (hs : s.cmd.coherent) :
    (s.commandWrite code).cmd.coherent := by
  by_cases h : s.cmd.unit = .idle
  · obtain ⟨r, reply, hlen, heq⟩ := State.cmd_commandWrite_of_idle h code
    rw [heq]
    exact taken_coherent hs hlen
  · rw [State.cmd_commandWrite_of_not_idle h]
    exact hs

/-- The reply buffer holds 16 words whatever the reply's length up to 16 (R165). -/
theorem length_replyBuffer {reply : List Word} (h : reply.length ≤ 16) : (replyBuffer reply).length = 16 := by
  rw [replyBuffer, List.length_append, List.length_replicate]
  omega

/-- A completion keeps the unit coherent: the reply it shows is the one that was formed. -/
theorem CommandUnit.complete_coherent {c : CommandUnit} {r : Result} {reply : List Word} {at' : Instant}
    (h : c.coherent) (hbusy : c.unit = .busy r reply at') :
    ({ c with unit := .idle, lastResult := r, replyLength := reply.length, reply := replyBuffer reply } :
      CommandUnit).coherent := by
  obtain ⟨harguments, -, -, hformed⟩ := h
  have hlen := hformed r reply at' hbusy
  exact ⟨harguments, length_replyBuffer hlen, hlen, fun _ _ _ h => nomatch h⟩

/-! ## The rows -/

/-- A row whose event keeps the Command Unit coherent. -/
theorem cmd_of_done {s u t : State} (h : done s u = .next t) (hu : u.cmd.coherent) : t.cmd.coherent :=
  of_done (P := fun v => v.cmd.coherent) h (fun hv => by simpa using hv) hu

/-- Every row keeps the Command Unit coherent. -/
theorem exec_cmd_coherent {c : Instr} {s t : State} (hs : s.cmd.coherent) (h : exec c s = .next t) :
    t.cmd.coherent := by
  cases c using row_induction
  case hardwareReset =>
    cases h
    exact ⟨rfl, rfl, Nat.zero_le _, fun _ _ _ h => nomatch h⟩
  case write code hrow => exact cmd_of_done ((hrow s).symm.trans h) (State.commandWrite_cmd_coherent code hs)
  case argument i value hrow =>
    refine cmd_of_done ((hrow s).symm.trans h) ⟨?_, hs.2⟩
    exact List.length_set.trans hs.1
  case enable hrow => exact cmd_of_done ((hrow s).symm.trans h) hs
  case release hrow => exact cmd_of_done ((hrow s).symm.trans h) hs
  case nothing hrow => exact cmd_of_done ((hrow s).symm.trans h) hs
  all_goals refine cmd_of_done h ?_
  case loadCompletion =>
    split
    · obtain ⟨harguments, hreply, hlength, -⟩ := hs
      have hkept : s.putLoaded.cmd = s.cmd := by simp
      show CommandUnit.coherent { s.putLoaded.cmd with unit := .idle }
      rw [hkept]
      exact ⟨harguments, hreply, hlength, fun _ _ _ h => nomatch h⟩
    · exact hs
  case commandCompletion =>
    split
    case h_1 hbusy => exact CommandUnit.complete_coherent hs hbusy
    all_goals exact hs
  case commandLost =>
    split
    · exact hs
    · exact hs
  case presenceTimerExpiry | lostTimerExpiry =>
    dsimp only
    repeat' split
    all_goals simpa using hs
  all_goals
    repeat' split
    all_goals simpa using hs

theorem step_cmd_coherent {s t : State} (hs : s.cmd.coherent) (h : step s = .next t) : t.cmd.coherent :=
  step_invariant (P := fun s => s.cmd.coherent) (fun _ _ h => h) (fun _ _ h => h)
    (fun s h => by simpa using h) (fun _ _ _ => exec_cmd_coherent) hs h

/-- Settles O5: each of the four blocks keeps its invariant by itself. -/
theorem stepKeepsBlocksCoherent : Obligations.StepKeepsBlocksCoherent :=
  ⟨fun _ _ => step_inRange, fun _ _ => step_frame_coherent, fun _ _ => step_banks_coherent,
    fun _ _ => step_cmd_coherent⟩

end Sys2Proof.Machine
end

section
/-! PROOFS. The Race Sequencer after each operation that writes it (R81 to R110). -/

namespace Sys2Proof.Machine

open Sys2Proof.Claims

/-! ## Agreeing on a start (R83, R86 to R93) -/

@[simp] theorem State.race_beginRecord (s : State) (r : RaceRecord) :
    (s.beginRecord r).race = { s.race with
      record := some { r with locked := reached s.tick r.lock }
      lockTimer := if reached s.tick r.lock then none else some r.lock
      greenTimer := some r.green } := rfl

@[simp] theorem State.race_removeProposal (s : State) : s.removeProposal.race = { s.race with proposal := .none } := by
  unfold State.removeProposal
  dsimp only
  split <;> rfl

@[simp] theorem State.race_adopt (s : State) (p : Station) (q : StartProposal) (a : Instant) :
    (s.adopt p q a).race =
      { (s.beginRecord (makeRecord p q a)).race with lobbyTimer := none, proposal := .none, own := .countdown } := by
  unfold State.adopt
  dsimp only
  split <;> simp

@[simp] theorem State.race_replaceWith (s : State) (p : Station) (q : StartProposal) (a : Instant) :
    (s.replaceWith p q a).race = (s.beginRecord (makeRecord p q a)).race := by
  simp [State.replaceWith]

/-! ## Leaving a race (R89, R95, R117) -/

@[simp] theorem State.race_leaveRace (s : State) (a : Instant) : (s.leaveRace a).race = s.race.clearRace := by
  simp [State.leaveRace]

@[simp] theorem State.race_replaceWithout (s : State) (p : Station) (q : StartProposal) (a : Instant) :
    (s.replaceWithout p q a).race = { s.race.clearRace with
      own := .entered, lobbyTimer := s.start (seconds s.settings.lobbyWindow), proposal := .none } := by
  simp [State.replaceWithout, State.start]

@[simp] theorem State.race_leaveForAttract (s : State) :
    s.leaveForAttract.race = { s.race.clearRace with
      own := .attract, entry := none, lobbyTimer := none, proposal := .none } := by
  simp [State.leaveForAttract]

@[simp] theorem State.race_toOffline (s : State) : s.toOffline.race = Sequencer.initial := rfl

/-! ## The control queue's part (R35, R83) -/

/-- A control frame that leaves a full queue can change the own proposal alone. -/
theorem State.race_overflowControl (s : State) (left : ControlFrame) (rest : List ControlFrame) :
    (s.overflowControl left rest).race =
      { s.race with proposal := if left = .start then .none else s.race.proposal } := by
  unfold State.overflowControl
  dsimp only
  split <;> simp

theorem State.race_makeRoom (s : State) : ∃ x, s.makeRoom.race = { s.race with proposal := x } := by
  unfold State.makeRoom
  split
  case isTrue => exact ⟨_, rfl⟩
  case isFalse =>
    split
    · exact ⟨_, s.race_overflowControl _ _⟩
    · exact ⟨_, rfl⟩
    · exact ⟨_, s.race_overflowControl _ _⟩
    · exact ⟨_, rfl⟩

/-- A control frame placed in the queue can change the own proposal alone. -/
theorem State.race_placeControl (s : State) (c : ControlFrame) :
    ∃ x, (s.placeControl c).race = { s.race with proposal := x } :=
  s.race_makeRoom

/-! ## Green, finishes and the close (R94, R103 to R110) -/

@[simp] theorem State.race_goGreen (s : State) (r : RaceRecord) :
    (s.goGreen r).race = { s.race with
      own := .racing, greenTimer := none, lapCount := 0, lapList := []
      limitTimer := some (r.green + seconds s.settings.raceLimit + settleMargin) } := by
  simp [State.goGreen]

@[simp] theorem State.race_joinEarliest (s : State) (finish : BitVec 32) :
    (s.joinEarliest finish).race = { s.race with
      earliest := if s.isEarliest finish then some finish else s.race.earliest
      graceTimer :=
        if s.isEarliest finish then some (s.origin + finish + seconds s.settings.finishGrace + settleMargin)
        else s.race.graceTimer } := by
  unfold State.joinEarliest
  split <;> simp

@[simp] theorem State.race_writeFinish (s : State) (p : Station) (finish : BitVec 32) :
    (s.writeFinish p finish).race = { s.race with
      earliest := if s.isEarliest finish then some finish else s.race.earliest
      graceTimer :=
        if s.isEarliest finish then some (s.origin + finish + seconds s.settings.finishGrace + settleMargin)
        else s.race.graceTimer } :=
  (s.setEntry p { s.entry p with finish := some finish }).race_joinEarliest finish

@[simp] theorem State.race_close (s : State) (limit : Option (BitVec 32)) (expired : Bool) :
    (s.close limit expired).race = { s.race with
      own := .results, graceTimer := none, limitTimer := none
      ceilingTimer := some (s.origin + ceilingTime), results := some (s.resultsFor limit) } := by
  unfold State.close
  dsimp only
  split <;> simp

end Sys2Proof.Machine
end

section
/-! PROOFS. Every step keeps the Race Sequencer coherent (R77, R86, R98, R115). -/

namespace Sys2Proof.Machine

open Sys2Proof.Claims

/-! ## What coherence depends on -/

/-- Timers, the own proposal, the earliest finish are no matter of coherence. -/
theorem Sequencer.coherent_congr {q q' : Sequencer} (hown : q'.own = q.own) (hentry : q'.entry = q.entry)
    (hrecord : q'.record.isSome = q.record.isSome) (hcount : q'.lapCount = q.lapCount) (hlist : q'.lapList = q.lapList)
    (hmark : q'.ceilingMark = q.ceilingMark) (hresults : q'.results = q.results) (h : q.coherent) : q'.coherent := by
  unfold coherent at *
  rw [hown, hentry, hrecord, hcount, hlist, hmark, hresults]
  exact h

@[simp] theorem Sequencer.coherent_proposal (q : Sequencer) (x : Proposal) :
    ({ q with proposal := x } : Sequencer).coherent ↔ q.coherent := Iff.rfl

@[simp] theorem Sequencer.coherent_lobbyTimer (q : Sequencer) (x : Timer) :
    ({ q with lobbyTimer := x } : Sequencer).coherent ↔ q.coherent := Iff.rfl

theorem Sequencer.initial_coherent : Sequencer.initial.coherent :=
  ⟨rfl, rfl, fun hm => absurd hm Bool.false_ne_true, rfl, rfl⟩

/-- What stands in a race state before RESULTS: the record and the entry, and neither results nor the ceiling mark. -/
theorem Sequencer.coherent_of_running {q : Sequencer} (hrace : q.own.isRace = true) (hown : q.own ≠ .results)
    (hrecord : q.record.isSome = true) (hentry : q.entry.isSome = true) (hresults : q.results = none)
    (hmark : q.ceilingMark = false) (hlaps : q.lapCount = q.lapList.length) : q.coherent := by
  refine ⟨hrecord.trans hrace.symm, by simp [hresults, hown], fun h => by simp [hmark] at h, ?_, hlaps⟩
  rw [hentry]
  cases ho : q.own <;> simp_all [OwnState.isRace]

/-- Outside RESULTS there are no results and no ceiling mark. -/
theorem Sequencer.coherent.before_results {q : Sequencer} (h : q.coherent) (hown : q.own ≠ .results) :
    q.results = none ∧ q.ceilingMark = false := by
  obtain ⟨-, hresults, hmark, -, -⟩ := h
  exact ⟨by simpa [hown] using hresults, by simpa using fun h => hown (hmark h)⟩

/-- Past ATTRACT there is an entry. -/
theorem Sequencer.coherent.entry_isSome {q : Sequencer} (h : q.coherent) (h1 : q.own ≠ .offline) (h2 : q.own ≠ .attract) :
    q.entry.isSome = true := by
  obtain ⟨-, -, -, hentry, -⟩ := h
  simpa [h1, h2] using hentry

/-- In the lobby, and out of the race, nothing of a race stands. -/
theorem Sequencer.clearRace_coherent {q : Sequencer}
    (hown : q.own = .attract ∧ q.entry = none ∨ q.own = .entered ∧ q.entry.isSome = true)
    (hclear : q.clearRace = q) : q.coherent := by
  rw [← hclear]
  rcases hown with ⟨ho, he⟩ | ⟨ho, he⟩
  · exact ⟨by simp [clearRace, ho, OwnState.isRace], by simp [clearRace, ho], fun hm => absurd hm Bool.false_ne_true,
      by simp [clearRace, ho, he], rfl⟩
  · exact ⟨by simp [clearRace, ho, OwnState.isRace], by simp [clearRace, ho], fun hm => absurd hm Bool.false_ne_true,
      by simp [clearRace, ho, he], rfl⟩

/-! ## The operations -/

/-- The close leaves the record and puts a results list in force (R110). -/
theorem State.close_coherent {s : State} (h : s.race.coherent) (hrace : s.race.own.isRace = true)
    (limit : Option (BitVec 32)) (expired : Bool) : (s.close limit expired).race.coherent := by
  obtain ⟨hrecord, -, -, hentry, hlaps⟩ := h
  rw [State.race_close]
  refine ⟨hrecord.trans hrace, rfl, fun _ => rfl, hentry.trans ?_, hlaps⟩
  cases ho : s.race.own <;> simp_all [OwnState.isRace]

theorem OwnState.isRace_of_isRunning {o : OwnState} (h : o.isRunning = true) : o.isRace = true := by
  cases o <;> first | rfl | cases h

theorem State.closeIfGraceReached_coherent {s : State} (h : s.race.coherent) (restarted : Bool) :
    (s.closeIfGraceReached restarted).race.coherent := by
  unfold State.closeIfGraceReached
  split
  case isTrue hclose =>
    simp only [Bool.and_eq_true] at hclose
    exact State.close_coherent h (OwnState.isRace_of_isRunning hclose.1.2) _ _
  case isFalse => exact h

theorem State.closeIfAllDone_coherent {s : State} (h : s.race.coherent) : s.closeIfAllDone.race.coherent := by
  unfold State.closeIfAllDone
  split
  case isTrue hdone =>
    simp only [State.allDone, Bool.and_eq_true, decide_eq_true_eq] at hdone
    exact State.close_coherent h (by rw [hdone.1]; rfl) _ _
  case isFalse => exact h

theorem State.writeFinish_coherent {s : State} (h : s.race.coherent) (p : Station) (finish : BitVec 32) :
    (s.writeFinish p finish).race.coherent := by
  rw [State.race_writeFinish]
  exact h

theorem State.hearFinish_coherent {s : State} (h : s.race.coherent) (p : Station) (c : CarReport) (a : Instant) :
    (s.hearFinish p c a).race.coherent := by
  unfold State.hearFinish
  split
  case h_1 => exact h
  case h_2 =>
    dsimp only
    split
    · exact State.closeIfGraceReached_coherent (State.writeFinish_coherent h _ _) _
    · exact h

/-- Adoption: from ENTERED into COUNTDOWN with a record (R87). -/
theorem State.adopt_coherent {s : State} (h : s.race.coherent) (hown : s.race.own = .entered) (p : Station)
    (q : StartProposal) (a : Instant) : (s.adopt p q a).race.coherent := by
  obtain ⟨hresults, hmark⟩ := h.before_results (by simp [hown])
  rw [State.race_adopt]
  exact Sequencer.coherent_of_running rfl (fun h => nomatch h) rfl (h.entry_isSome (by simp [hown]) (by simp [hown]))
    hresults hmark h.2.2.2.2

theorem State.replaceWith_coherent {s : State} (h : s.race.coherent) (hown : s.race.own = .countdown) (p : Station)
    (q : StartProposal) (a : Instant) : (s.replaceWith p q a).race.coherent := by
  rw [State.race_replaceWith]
  exact Sequencer.coherent_congr (q := s.race) rfl rfl (by rw [h.1, hown]; rfl) rfl rfl rfl rfl h

theorem State.replaceWithout_coherent {s : State} (h : s.race.coherent) (hown : s.race.own = .countdown) (p : Station)
    (q : StartProposal) (a : Instant) : (s.replaceWithout p q a).race.coherent := by
  rw [State.race_replaceWithout]
  exact Sequencer.clearRace_coherent (.inr ⟨rfl, h.entry_isSome (by simp [hown]) (by simp [hown])⟩) rfl

theorem State.testAdoption_coherent {s : State} (h : s.race.coherent) (hown : s.race.own = .entered) (p : Station)
    (q : StartProposal) (a : Instant) : (s.testAdoption p q a).race.coherent := by
  unfold State.testAdoption
  split
  case isTrue => exact h
  split
  case isTrue => simpa [State.missStart] using h
  split
  case isTrue => simpa using h
  case isFalse => exact State.adopt_coherent h hown p q a

theorem State.testReplacement_coherent {s : State} (h : s.race.coherent) (hown : s.race.own = .countdown)
    (r : RaceRecord) (p : Station) (q : StartProposal) (a : Instant) : (s.testReplacement r p q a).race.coherent := by
  unfold State.testReplacement
  split
  case isTrue => exact h
  split
  case isTrue => simpa using h
  split
  case isFalse => exact h
  split
  case isTrue => exact State.replaceWith_coherent h hown p q a
  case isFalse => exact State.replaceWithout_coherent h hown p q a

/-- The decision on a START keeps the Race Sequencer coherent, by the own race state (R84). -/
theorem State.hearStart_coherent {s : State} (h : s.race.coherent) (p : Station) (q : StartProposal) (a : Instant) :
    (s.hearStart p q a).race.coherent := by
  have hdecided : (s.decideStart p q a).race.coherent := by
    unfold State.decideStart
    split
    case h_3 hown => exact State.testAdoption_coherent h hown p q a
    case h_5 hown _ =>
      split
      · simpa using h
      · exact State.testReplacement_coherent h hown _ p q a
    case h_6 | h_7 | h_8 => simpa using h
    all_goals exact h
  simpa [State.hearStart] using hdecided

theorem State.hearPayload_coherent {s : State} (h : s.race.coherent) (p : Station) (x : Payload) (a : Instant) :
    (s.hearPayload p x a).race.coherent := by
  cases x with
  | start q => exact State.hearStart_coherent h p q a
  | call | car | withdraw => simpa [State.hearPayload] using h

theorem State.hearReport_coherent {s : State} (h : s.race.coherent) (p : Station) (x : Payload) (a : Instant) :
    (s.hearReport p x a).race.coherent := by
  cases x with
  | car c => exact State.hearFinish_coherent h p c a
  | call | start | withdraw => exact h

/-- A frame handed on keeps the Race Sequencer coherent, through the START, the finish and the close it can bring. -/
theorem State.handOn_coherent {s : State} (h : s.race.coherent) (f : BusFrame) (a : Instant) :
    (s.handOn f a).race.coherent := by
  have hpayload : (((s.receiveFields f a).joinSender f a).hearPayload f.sender f.payload a).race.coherent :=
    State.hearPayload_coherent (by simpa using h) _ _ _
  have hlink : (((((s.receiveFields f a).joinSender f a).hearPayload f.sender f.payload a).restartPresence
      f.sender a).hearLink f a).race.coherent := by simpa using hpayload
  have hreport := State.hearReport_coherent hlink f.sender f.payload a
  unfold State.handOn
  dsimp only
  split
  · exact State.closeIfAllDone_coherent hreport
  · exact hreport

theorem State.hear_coherent {s : State} (h : s.race.coherent) (f : BusFrame) (a : Instant) :
    (s.hear f a).race.coherent := by
  unfold State.hear State.duplicate
  dsimp only
  repeat' split
  all_goals first
    | exact State.handOn_coherent (by simpa using h) f a | exact Sequencer.initial_coherent | simpa using h

/-- The own frame read back: the proposal, and the own START as any other (R43, R83). -/
theorem State.readBack_coherent {s : State} (h : s.race.coherent) (f : InFlight) : (s.readBack f).race.coherent := by
  have hsource : (s.settleSource f.source f.departure).race.coherent := by
    unfold State.settleSource
    split
    case h_1 => exact h
    all_goals
      repeat' split
      all_goals simpa using h
  unfold State.readBack State.hearOwn
  dsimp only
  split
  · exact hsource
  split
  · exact State.hearStart_coherent (by simpa using hsource) _ _ _
  all_goals simpa using hsource

theorem State.collide_coherent {s : State} (h : s.race.coherent) : s.collide.race.coherent := by
  unfold State.collide State.giveUp State.giveUpSource
  dsimp only
  repeat' split
  all_goals simpa using h

theorem State.lobbyExpiry_coherent {s : State} (h : s.race.coherent) (i : Instant) :
    (s.lobbyExpiry i).race.coherent := by
  unfold State.lobbyExpiry
  dsimp only
  split
  · exact h
  split
  · simpa using h
  · obtain ⟨x, hx⟩ := (s.setRace { s.race with
      lobbyTimer := s.start (seconds s.settings.lobbyWindow) }).race_placeControl .start
    rw [State.race_setRace, hx]
    exact h

/-- Green: from COUNTDOWN into RACING with no laps (R94). -/
theorem State.goGreen_coherent {s : State} (h : s.race.coherent) (hown : s.race.own = .countdown) (r : RaceRecord) :
    (s.goGreen r).race.coherent := by
  obtain ⟨hresults, hmark⟩ := h.before_results (by simp [hown])
  rw [State.race_goGreen]
  exact Sequencer.coherent_of_running rfl (fun h => nomatch h) (h.1.trans (by rw [hown]; rfl))
    (h.entry_isSome (by simp [hown]) (by simp [hown])) hresults hmark rfl

/-! ## The commands -/

theorem State.leaveForAttract_coherent (s : State) : s.leaveForAttract.race.coherent := by
  rw [State.race_leaveForAttract]
  exact Sequencer.clearRace_coherent (.inl ⟨rfl, rfl⟩) rfl

/-- In a lobby state, or OFFLINE, nothing of a race stands. -/
theorem Sequencer.coherent.outside_race {q : Sequencer} (h : q.coherent) (hown : q.own.isRace = false) :
    q.record = none ∧ q.results = none ∧ q.ceilingMark = false := by
  have hnot : q.own ≠ .results := fun ho => by simp [ho, OwnState.isRace] at hown
  exact ⟨by simpa [hown] using h.1, h.before_results hnot⟩

/-- A lobby state entered from outside a race. -/
theorem Sequencer.coherent_of_lobby {q q' : Sequencer} (h : q.coherent) (hfrom : q.own.isRace = false)
    (hown : q'.own = .attract ∧ q'.entry = none ∨ q'.own = .entered ∧ q'.entry.isSome = true)
    (hrecord : q'.record = q.record) (hresults : q'.results = q.results) (hmark : q'.ceilingMark = q.ceilingMark)
    (hlaps : q'.lapCount = q.lapCount ∧ q'.lapList = q.lapList) : q'.coherent := by
  obtain ⟨hr, hs, hm⟩ := h.outside_race hfrom
  obtain ⟨hcount, hlist⟩ := hlaps
  unfold coherent
  rw [hrecord, hresults, hmark, hcount, hlist, hr, hs, hm]
  rcases hown with ⟨ho, he⟩ | ⟨ho, he⟩
  · exact ⟨by rw [ho]; rfl, by rw [ho]; rfl, fun hm => absurd hm Bool.false_ne_true, by rw [ho, he]; rfl, h.2.2.2.2⟩
  · exact ⟨by rw [ho]; rfl, by rw [ho]; rfl, fun hm => absurd hm Bool.false_ne_true, by rw [ho, he]; rfl, h.2.2.2.2⟩

theorem State.goOnline_coherent {s : State} (h : s.race.coherent) : s.goOnline.state.race.coherent := by
  unfold State.goOnline
  split
  case isTrue => exact h
  case isFalse hoffline =>
    have hown : s.race.own = .offline := by simpa using hoffline
    split
    · exact h
    · exact Sequencer.coherent_of_lobby h (by rw [hown]; rfl)
        (.inl ⟨rfl, by simpa [hown] using h.2.2.2.1⟩) rfl rfl rfl ⟨rfl, rfl⟩

theorem State.enter_coherent {s : State} (h : s.race.coherent) : s.enter.state.race.coherent := by
  unfold State.enter
  split
  case isTrue => exact h
  case isFalse hattract =>
    have hown : s.race.own = .attract := by simpa using hattract
    have hentered : ∀ race, (s.enterLobby race).race.coherent := fun race =>
      Sequencer.coherent_of_lobby h (by rw [hown]; rfl) (.inr ⟨rfl, rfl⟩) rfl rfl rfl ⟨rfl, rfl⟩
    repeat' split
    all_goals first | exact h | exact hentered _

theorem State.cancelEntry_coherent {s : State} (h : s.race.coherent) : s.cancelEntry.state.race.coherent := by
  unfold State.cancelEntry
  split
  case isTrue => exact h
  case isFalse hentered =>
    have hown : s.race.own = .entered := by simpa using hentered
    simp only [State.race_setRace, State.race_setOwn, State.race_removeProposal]
    exact Sequencer.coherent_of_lobby h (by rw [hown]; rfl) (.inl ⟨rfl, rfl⟩) rfl rfl rfl ⟨rfl, rfl⟩

/-- The own finish: from RACING into FINISHED, and the closes it can bring (R103). -/
theorem State.ownFinishes_coherent {s : State} (h : s.race.coherent) (hown : s.race.own = .racing)
    (crossing : BitVec 32) (stamp : Instant) : (s.ownFinishes crossing stamp).race.coherent := by
  obtain ⟨hresults, hmark⟩ := h.before_results (by simp [hown])
  have hfinished : ({ (s.writeFinish s.own crossing).race with own := .finished } : Sequencer).coherent := by
    rw [State.race_writeFinish]
    exact Sequencer.coherent_of_running rfl (fun h => nomatch h) (h.1.trans (by rw [hown]; rfl))
      (h.entry_isSome (by simp [hown]) (by simp [hown])) hresults hmark h.2.2.2.2
  unfold State.ownFinishes
  exact State.closeIfAllDone_coherent (State.closeIfGraceReached_coherent (by simpa using hfinished) _)

/-- An accepted crossing joins the lap list and is counted (R98, R102). -/
theorem State.acceptLap_coherent {s : State} (h : s.race.coherent) (hown : s.race.own = .racing)
    (crossing : BitVec 32) (stamp : Instant) : (s.acceptLap crossing stamp).race.coherent := by
  have hlaps : ({ s.race with
      lapCount := s.race.lapCount + 1, lapList := s.race.lapList ++ [crossing] } : Sequencer).coherent := by
    obtain ⟨hrecord, hresults, hmark, hentry, hcount⟩ := h
    exact ⟨hrecord, hresults, hmark, hentry, by simp [hcount]⟩
  unfold State.acceptLap
  dsimp only
  split
  · exact State.ownFinishes_coherent (by simpa using hlaps) (by simpa using hown) _ _
  · simpa using hlaps

theorem State.lap_coherent {s : State} (h : s.race.coherent) : s.lap.state.race.coherent := by
  unfold State.lap
  split
  case isTrue => exact h
  case isFalse hracing =>
    have hown : s.race.own = .racing := by simpa using hracing
    dsimp only
    repeat' split
    all_goals first | exact h | exact State.acceptLap_coherent h hown _ _

theorem State.goOffline_coherent {s : State} (h : s.race.coherent) : s.goOffline.state.race.coherent := by
  unfold State.goOffline
  repeat' split
  all_goals first | exact h | exact Sequencer.initial_coherent

theorem State.commandWrite_race_coherent {s : State} (code : Word) (hs : s.race.coherent) :
    (s.commandWrite code).race.coherent := by
  refine State.take_property (Q := fun u => u.race.coherent) (fun _ _ h => h) hs ?_
  apply command_induction (P := fun w => ∀ {u : State}, u.race.coherent → (w u).state.race.coherent)
  case h3 => exact State.goOnline_coherent
  case h4 => exact State.goOffline_coherent
  case h5 => exact fun _ => Sequencer.initial_coherent
  case h6 => exact State.enter_coherent
  case h7 => exact State.cancelEntry_coherent
  case h9 => exact State.lap_coherent
  case h10 =>
    intro u hu
    unfold State.quit
    split
    · exact hu
    · exact State.leaveForAttract_coherent _
  case h13 =>
    intro u hu
    unfold State.ackResults
    split
    · exact hu
    · exact State.leaveForAttract_coherent _
  all_goals exact fun hu => by simpa using hu

/-! ## The rows -/

/-- A row whose event keeps the Race Sequencer coherent. -/
theorem race_of_done {s u t : State} (h : done s u = .next t) (hu : u.race.coherent) : t.race.coherent := by
  refine of_done (P := fun v => v.race.coherent) h (fun hv => ?_) hu
  exact Sequencer.coherent_congr (by simp) (by simp) (by simp) (by simp) (by simp) (by simp) (by simp) hv

/-- A start opportunity can withdraw the own START, and changes nothing else of the Race Sequencer (R82). -/
theorem State.arbitrate_coherent {s : State} (h : s.race.coherent) : s.arbitrate.race.coherent := by
  rw [State.race_arbitrate]
  exact h

/-- Every row keeps the Race Sequencer coherent. -/
theorem exec_race_coherent {c : Instr} {s t : State} (hs : s.race.coherent) (h : exec c s = .next t) :
    t.race.coherent := by
  cases c using row_induction
  case hardwareReset =>
    cases h
    exact Sequencer.initial_coherent
  case write code hrow => exact race_of_done ((hrow s).symm.trans h) (State.commandWrite_race_coherent code hs)
  case argument hrow => exact race_of_done ((hrow s).symm.trans h) hs
  case enable hrow => exact race_of_done ((hrow s).symm.trans h) hs
  case release hrow => exact race_of_done ((hrow s).symm.trans h) hs
  case nothing hrow => exact race_of_done ((hrow s).symm.trans h) hs
  all_goals refine race_of_done h ?_
  case frameCompletion =>
    repeat' split
    all_goals first | exact hs | exact State.hear_coherent hs _ _
  case startOpportunity =>
    split
    · exact State.arbitrate_coherent (by simpa using hs)
    · exact hs
  case readBackWhole =>
    repeat' split
    all_goals first | exact hs | exact State.readBack_coherent hs _
  case collision =>
    repeat' split
    all_goals first | exact hs | exact State.collide_coherent hs
  case lostTimerExpiry =>
    dsimp only
    repeat' split
    all_goals first | exact hs | exact State.closeIfAllDone_coherent (by simpa using hs)
  case lobbyTimerExpiry =>
    repeat' split
    all_goals first | exact hs | exact State.lobbyExpiry_coherent hs _
  case lockTimerExpiry =>
    split
    · exact Sequencer.coherent_congr (q := s.race) rfl rfl (by simp) rfl rfl rfl rfl hs
    · exact hs
  case greenTimerExpiry =>
    split
    · split
      case h_1 hown _ => exact State.goGreen_coherent hs hown _
      case h_2 => exact hs
    · exact hs
  case graceCloseTimerExpiry | limitCloseTimerExpiry =>
    split
    · split
      case isTrue.isTrue hrunning => exact State.close_coherent hs (OwnState.isRace_of_isRunning hrunning) _ _
      case isTrue.isFalse => exact hs
    · exact hs
  case resultsCeilingTimerExpiry =>
    split
    · obtain ⟨hrecord, hresults, hmark, hentry, hlaps⟩ := hs
      exact ⟨hrecord, hresults, by simpa [or_imp] using hmark, hentry, hlaps⟩
    · exact hs
  case presenceTimerExpiry =>
    dsimp only
    repeat' split
    all_goals simpa using hs
  all_goals
    repeat' split
    all_goals simpa using hs

/-- Settles O6: every row keeps the Race Sequencer coherent, and time does not touch it. -/
theorem stepKeepsRaceCoherent : Obligations.StepKeepsRaceCoherent := fun _ _ hs =>
  step_invariant (P := fun s => s.race.coherent) (fun _ _ h => h) (fun _ _ h => h)
    (fun s h => by simpa using h) (fun _ _ _ => exec_race_coherent) hs

end Sys2Proof.Machine
end

section
/-! PROOFS. The Transmitter after each operation that writes it (R35, R36, R42, R50, R83). -/

namespace Sys2Proof.Machine

open Sys2Proof.Claims

/-! ## Frames leave the queue (R35, R43, R46) -/

@[simp] theorem Transmitter.queue_dropCurrent (t : Transmitter) : t.dropCurrent.queue = t.queue := rfl

@[simp] theorem Transmitter.queue_emptySlot (t : Transmitter) : t.emptySlot.queue = t.queue := rfl

/-- The queue without a START is no longer than with it. -/
theorem length_withoutStart_le (q : List ControlFrame) : (withoutStart q).length ≤ q.length :=
  List.length_filter_le _ q

theorem Transmitter.length_queue_dropHead_le (t : Transmitter) : t.dropHead.queue.length ≤ t.queue.length := by
  unfold dropHead
  split
  · exact Nat.le_trans (Nat.le_of_eq (List.length_tail ..)) (Nat.sub_le _ _)
  · exact Nat.le_refl _

/-- The move to OFFLINE removes the STARTs from the queue and nothing else (R50). -/
@[simp] theorem Transmitter.queue_goOffline (t : Transmitter) : t.goOffline.queue = withoutStart t.queue := by
  unfold goOffline
  dsimp only
  repeat' split
  all_goals rfl

@[simp] theorem State.tx_removeProposal (s : State) :
    s.removeProposal.tx = if s.race.proposal = .pending then s.tx.removeStart else s.tx := by
  unfold State.removeProposal
  dsimp only
  split <;> rfl

/-! ## The moves of the own race state -/

@[simp] theorem State.tx_adopt (s : State) (p : Station) (q : StartProposal) (a : Instant) :
    (s.adopt p q a).tx =
      { (if p = s.own then s.tx else s.removeProposal.tx) with callTimer := none } := by
  by_cases hp : p = s.own
  · simp [State.adopt, hp]
  · simp [State.adopt, hp]

@[simp] theorem State.tx_leaveRace (s : State) (a : Instant) : (s.leaveRace a).tx = s.tx.emptySlot := by
  simp [State.leaveRace]

@[simp] theorem State.tx_replaceWithout (s : State) (p : Station) (q : StartProposal) (a : Instant) :
    (s.replaceWithout p q a).tx = { s.tx.emptySlot with callTimer := none } := by
  simp [State.replaceWithout]

@[simp] theorem State.tx_leaveForAttract (s : State) :
    s.leaveForAttract.tx = { s.tx.emptySlot with callTimer := none } := by
  simp [State.leaveForAttract]

@[simp] theorem State.tx_toOffline (s : State) : s.toOffline.tx = s.tx.goOffline := rfl

@[simp] theorem State.tx_goGreen (s : State) (r : RaceRecord) : (s.goGreen r).tx = { s.tx with callTimer := none } := by
  simp [State.goGreen]

@[simp] theorem State.tx_close (s : State) (limit : Option (BitVec 32)) (expired : Bool) :
    (s.close limit expired).tx = { s.tx with callTimer := none } := by
  unfold State.close
  dsimp only
  split <;> simp

/-! ## Room in the queue (R35) -/

@[simp] theorem State.tx_dropFrame (s : State) (kind : Nat) :
    (s.dropFrame kind).tx = { s.tx with drops := satInc s.tx.drops } := rfl

@[simp] theorem State.tx_overflowControl (s : State) (left : ControlFrame) (rest : List ControlFrame) :
    (s.overflowControl left rest).tx = { s.tx with queue := rest, drops := satInc s.tx.drops } := by
  unfold State.overflowControl
  dsimp only
  split <;> rfl

@[simp] theorem State.tx_placeControl (s : State) (c : ControlFrame) :
    (s.placeControl c).tx = { s.makeRoom.tx with queue := s.makeRoom.tx.queue ++ [c] } := rfl

end Sys2Proof.Machine
end

section
/-! PROOFS. Every step keeps the control queue at four frames or fewer, and a current frame whose source exists (R35,
R46). -/

namespace Sys2Proof.Machine

open Sys2Proof.Claims

/-! ## Four frames or fewer (R35) -/

/-- A queue that is no longer than a bounded one is bounded. -/
theorem State.controlBounded_of_le {s t : State} (h : s.controlBounded) (hle : t.tx.queue.length ≤ s.tx.queue.length) :
    t.controlBounded :=
  Nat.le_trans hle h

theorem State.controlBounded_of_queue {s t : State} (h : s.controlBounded) (hq : t.tx.queue = s.tx.queue) :
    t.controlBounded :=
  State.controlBounded_of_le h (Nat.le_of_eq (congrArg List.length hq))

/-- Room made in a bounded queue is room for one frame. -/
theorem State.length_makeRoom_lt {s : State} (h : s.controlBounded) : s.makeRoom.tx.queue.length < 4 := by
  unfold State.controlBounded at h
  unfold State.makeRoom
  split
  case isTrue hlt => exact hlt
  case isFalse hfull =>
    split
    all_goals
      simp_all only [State.tx_overflowControl, List.length_cons, List.length_nil]
      omega

theorem State.placeControl_controlBounded {s : State} (h : s.controlBounded) (c : ControlFrame) :
    (s.placeControl c).controlBounded := by
  have hroom := State.length_makeRoom_lt h
  simp only [State.controlBounded, State.tx_placeControl, List.length_append, List.length_singleton]
  omega

theorem State.length_queue_removeProposal_le (s : State) : s.removeProposal.tx.queue.length ≤ s.tx.queue.length := by
  rw [State.tx_removeProposal]
  split
  · rw [(Transmitter.removeStart_keeps _).2.2.2.2.2.2.2.2.2.2.2.2.2.2.2.2.2]
    exact length_withoutStart_le _
  · exact Nat.le_refl _

/-! ## The end of an event -/

theorem State.arbitrate_controlBounded {s : State} (h : s.controlBounded) : s.arbitrate.controlBounded := by
  have hwithdraw : s.withdrawStart.tx.queue.length ≤ s.tx.queue.length := by
    simpa [State.withdrawStart] using length_withoutStart_le s.tx.queue
  unfold State.arbitrate
  split
  case h_1 => exact h
  split
  case isFalse => exact h
  dsimp only
  split
  · exact State.controlBounded_of_le h hwithdraw
  · exact State.controlBounded_of_le h hwithdraw

theorem settle_controlBounded {b s : State} (h : s.controlBounded) : (settle b s).controlBounded := by
  have hkept : s.loseCurrent.controlBounded := State.controlBounded_of_queue h (by simp)
  unfold settle
  dsimp only
  split
  · exact State.arbitrate_controlBounded hkept
  · exact hkept

/-! ## Frames heard -/

theorem State.adopt_controlBounded {s : State} (h : s.controlBounded) (p : Station) (q : StartProposal) (a : Instant) :
    (s.adopt p q a).controlBounded := by
  refine State.controlBounded_of_le h ?_
  rw [State.tx_adopt]
  split
  · exact Nat.le_refl _
  · exact s.length_queue_removeProposal_le

/-- A START takes frames from the queue at most: the own START (R79, R87). -/
theorem State.hearStart_controlBounded {s : State} (h : s.controlBounded) (p : Station) (q : StartProposal)
    (a : Instant) : (s.hearStart p q a).controlBounded := by
  have hdecided : (s.decideStart p q a).controlBounded := by
    unfold State.decideStart State.testAdoption State.testReplacement
    repeat' split
    all_goals first
      | exact h
      | exact State.adopt_controlBounded h p q a
      | exact State.controlBounded_of_queue h (by simp)
  exact State.controlBounded_of_queue hdecided (by simp [State.hearStart])

theorem State.hearFinish_controlBounded {s : State} (h : s.controlBounded) (p : Station) (c : CarReport) (a : Instant) :
    (s.hearFinish p c a).controlBounded := by
  unfold State.hearFinish State.closeIfGraceReached
  dsimp only
  repeat' split
  all_goals exact State.controlBounded_of_queue h (by simp)

theorem State.closeIfAllDone_controlBounded {s : State} (h : s.controlBounded) : s.closeIfAllDone.controlBounded := by
  unfold State.closeIfAllDone
  split
  all_goals exact State.controlBounded_of_queue h (by simp)

theorem State.hearPayload_controlBounded {s : State} (h : s.controlBounded) (p : Station) (x : Payload) (a : Instant) :
    (s.hearPayload p x a).controlBounded := by
  cases x with
  | start q => exact State.hearStart_controlBounded h p q a
  | call | car | withdraw => exact State.controlBounded_of_queue h (by simp [State.hearPayload])

theorem State.hearReport_controlBounded {s : State} (h : s.controlBounded) (p : Station) (x : Payload) (a : Instant) :
    (s.hearReport p x a).controlBounded := by
  cases x with
  | car c => exact State.hearFinish_controlBounded h p c a
  | call | start | withdraw => exact h

theorem State.handOn_controlBounded {s : State} (h : s.controlBounded) (f : BusFrame) (a : Instant) :
    (s.handOn f a).controlBounded := by
  have hpayload : (((s.receiveFields f a).joinSender f a).hearPayload f.sender f.payload a).controlBounded :=
    State.hearPayload_controlBounded (State.controlBounded_of_queue h (by simp)) _ _ a
  have hlink : (((((s.receiveFields f a).joinSender f a).hearPayload f.sender f.payload a).restartPresence
      f.sender a).hearLink f a).controlBounded := State.controlBounded_of_queue hpayload (by simp)
  have hreport := State.hearReport_controlBounded hlink f.sender f.payload a
  unfold State.handOn
  dsimp only
  split
  · exact State.closeIfAllDone_controlBounded hreport
  · exact hreport

/-- A duplicate station empties the queue (R49). -/
theorem State.duplicate_controlBounded {s : State} (h : s.controlBounded) (f : BusFrame) (a : Instant) :
    (s.duplicate f a).controlBounded := by
  unfold State.duplicate
  dsimp only
  split
  · exact h
  split
  · exact Nat.zero_le _
  · rw [State.controlBounded, State.tx_toOffline, Transmitter.queue_goOffline]
    exact Nat.zero_le _

theorem State.hear_controlBounded {s : State} (h : s.controlBounded) (f : BusFrame) (a : Instant) :
    (s.hear f a).controlBounded := by
  have hcounted : ∀ r g, ((s.setRx r).setTx { s.tx with lastSender := g }).controlBounded := fun _ _ => h
  unfold State.hear
  dsimp only
  repeat' split
  all_goals first
    | exact hcounted _ _
    | exact State.duplicate_controlBounded (hcounted _ _) f a
    | exact State.handOn_controlBounded (hcounted _ _) f a

/-! ## Own frames -/

theorem State.settleSource_controlBounded {s : State} (h : s.controlBounded) (x : Source) (d : Instant) :
    (s.settleSource x d).controlBounded := by
  have hhead := s.tx.length_queue_dropHead_le
  unfold State.settleSource
  repeat' split
  all_goals first | exact h | exact State.controlBounded_of_le h (by simpa using hhead)

theorem State.readBack_controlBounded {s : State} (h : s.controlBounded) (f : InFlight) :
    (s.readBack f).controlBounded := by
  have hsource := State.settleSource_controlBounded h f.source f.departure
  unfold State.readBack State.hearOwn
  dsimp only
  split
  · exact hsource
  split
  · exact State.hearStart_controlBounded (State.controlBounded_of_queue hsource (by simp)) _ _ _
  all_goals exact State.controlBounded_of_queue hsource (by simp)

/-- The giving up of a frame takes at most that frame from the queue (R45). -/
theorem State.giveUpSource_controlBounded {s : State} (h : s.controlBounded) (x : Source) :
    (s.giveUpSource x).controlBounded := by
  have hhead := s.tx.length_queue_dropHead_le
  unfold State.giveUpSource State.giveUpCar State.giveUpResend
  repeat' split
  all_goals first | exact h | exact State.controlBounded_of_le h (by simpa using hhead)

theorem State.giveUp_controlBounded {s : State} (h : s.controlBounded) (x : Source) : (s.giveUp x).controlBounded :=
  State.giveUpSource_controlBounded h x

theorem State.collide_controlBounded {s : State} (h : s.controlBounded) : s.collide.controlBounded := by
  unfold State.collide
  dsimp only
  split
  case h_1 => exact h
  split
  case isTrue =>
    refine State.giveUp_controlBounded ?_ _
    exact State.controlBounded_of_queue h rfl
  case isFalse => split <;> exact h

theorem State.lobbyExpiry_controlBounded {s : State} (h : s.controlBounded) (i : Instant) :
    (s.lobbyExpiry i).controlBounded := by
  unfold State.lobbyExpiry
  dsimp only
  split
  case isTrue => exact h
  split
  case isTrue => exact h
  case isFalse =>
    refine State.placeControl_controlBounded ?_ .start
    exact State.controlBounded_of_queue h rfl

/-! ## The commands -/

theorem State.toOffline_controlBounded {s : State} (h : s.controlBounded) : s.toOffline.controlBounded :=
  State.controlBounded_of_le h (by simpa using length_withoutStart_le s.tx.queue)

theorem State.commandWrite_controlBounded {s : State} (code : Word) (hs : s.controlBounded) :
    (s.commandWrite code).controlBounded := by
  refine State.take_property (Q := State.controlBounded) (fun _ _ h => h) hs ?_
  apply command_induction (P := fun w => ∀ {u : State}, u.controlBounded → (w u).state.controlBounded)
  case h4 =>
    intro u hu
    unfold State.goOffline
    split
    · exact hu
    split
    · exact State.toOffline_controlBounded (State.placeControl_controlBounded hu _)
    · exact State.toOffline_controlBounded hu
  case h5 =>
    intro u hu
    simp only [State.restart, State.controlBounded, State.restartTx]
    show List.length (if _ then _ else _) ≤ 4
    split <;> decide
  case h7 =>
    intro u hu
    unfold State.cancelEntry
    split
    · exact hu
    · exact State.controlBounded_of_le hu u.length_queue_removeProposal_le
  case h9 =>
    intro u hu
    unfold State.lap State.acceptLap State.ownFinishes State.closeIfGraceReached State.closeIfAllDone
    dsimp only
    repeat' split
    all_goals exact State.controlBounded_of_queue hu (by simp [State.refuse])
  case h10 =>
    intro u hu
    unfold State.quit
    split
    · exact hu
    · exact State.controlBounded_of_queue (State.placeControl_controlBounded hu (.withdraw 1)) (by simp)
  case h13 =>
    intro u hu
    unfold State.ackResults
    split
    · exact hu
    · exact State.controlBounded_of_queue hu (by simp)
  case h3 =>
    intro u hu
    unfold State.goOnline
    repeat' split
    all_goals exact hu
  case h6 =>
    intro u hu
    unfold State.enter
    repeat' split
    all_goals exact hu
  case h8 =>
    intro u hu
    unfold State.takePostCar
    repeat' split
    all_goals exact hu
  case h15 => exact fun hu => hu
  all_goals exact fun hu => State.controlBounded_of_queue hu (by simp)

/-! ## The rows -/

/-- A row whose event keeps the queue bounded. -/
theorem control_of_done {s u t : State} (h : done s u = .next t) (hu : u.controlBounded) : t.controlBounded :=
  of_done h settle_controlBounded hu

/-- Every row keeps the control queue at four frames or fewer. -/
theorem exec_controlBounded {c : Instr} {s t : State} (hs : s.controlBounded) (h : exec c s = .next t) :
    t.controlBounded := by
  cases c using row_induction
  case hardwareReset =>
    cases h
    exact Nat.zero_le _
  case write code hrow => exact control_of_done ((hrow s).symm.trans h) (State.commandWrite_controlBounded code hs)
  case argument hrow => exact control_of_done ((hrow s).symm.trans h) hs
  case enable hrow => exact control_of_done ((hrow s).symm.trans h) hs
  case release hrow => exact control_of_done ((hrow s).symm.trans h) hs
  case nothing hrow => exact control_of_done ((hrow s).symm.trans h) hs
  all_goals refine control_of_done h ?_
  case frameCompletion =>
    repeat' split
    all_goals first | exact hs | exact State.hear_controlBounded hs _ _
  case startOpportunity =>
    split
    · exact State.arbitrate_controlBounded (State.controlBounded_of_queue hs (by simp))
    · exact hs
  case readBackWhole =>
    repeat' split
    all_goals first | exact hs | exact State.readBack_controlBounded hs _
  case collision =>
    repeat' split
    all_goals first | exact hs | exact State.collide_controlBounded hs
  case idleGap =>
    split
    · have hqueue : s.endActivity.clearStuck.tx.queue = s.tx.queue := by
        unfold State.clearStuck
        split <;> rfl
      exact State.controlBounded_of_queue hs hqueue
    · exact hs
  case lobbyTimerExpiry =>
    repeat' split
    all_goals first | exact hs | exact State.lobbyExpiry_controlBounded hs _
  case greenTimerExpiry =>
    repeat' split
    all_goals exact State.controlBounded_of_queue hs (by simp)
  case graceCloseTimerExpiry | limitCloseTimerExpiry =>
    repeat' split
    all_goals exact hs
  case lostTimerExpiry =>
    dsimp only
    repeat' split
    all_goals first
      | exact hs | exact State.closeIfAllDone_controlBounded (State.controlBounded_of_queue hs (by simp))
  case presenceTimerExpiry =>
    dsimp only
    repeat' split
    all_goals exact hs
  case loadCompletion =>
    split
    · exact State.controlBounded_of_queue hs (by simp [State.startBlocks])
    · exact hs
  all_goals
    repeat' split
    all_goals exact State.controlBounded_of_queue hs (by simp)

/-- After every row the current frame stands: the settling sees to it, and hardware reset leaves none (R46). -/
theorem exec_currentStands {c : Instr} {s t : State} (h : exec c s = .next t) : t.currentStands = true := by
  obtain ⟨station, rate, low, memory, rfl⟩ | hdone := exec_eq_done c
  · cases h
    rfl
  · obtain ⟨u, hu⟩ := hdone s
    obtain rfl := Host.Outcome.next.inj (hu.symm.trans h)
    exact settle_stands s u

/-- What the Transmitter works on: its queue is bounded and its current frame stands (R35, R46). -/
def State.workStands (s : State) : Prop := s.controlBounded ∧ s.currentStands = true

/-- Time changes neither the queue nor the current frame. -/
theorem State.advance_workStands {s : State} (h : s.workStands) : s.advance.workStands := by
  have htx : s.advance.tx = { s.tx with
      stuckCount := s.advance.tx.stuckCount, opportunity := s.advance.tx.opportunity } :=
    congrArg State.tx s.advance_eq
  exact ⟨State.controlBounded_of_queue h.1 (by rw [htx]), (congrArg State.currentStands s.advance_eq).trans h.2⟩

/-- Settles O7: every row leaves the queue bounded and its current frame standing, and time changes neither. -/
theorem stepKeepsTransmitterWork : Obligations.StepKeepsTransmitterWork := fun _ _ hqueue hstands =>
  step_invariant (P := State.workStands) (fun _ _ h => h) (fun _ _ h => h) (fun _ => State.advance_workStands)
    (fun _ _ _ h hexec => ⟨exec_controlBounded h.1 hexec, exec_currentStands hexec⟩) ⟨hqueue, hstands⟩

end Sys2Proof.Machine
end

section
/-! PROOFS. A step runs the front command; every command completes and leaves the queue alone; the invariants hold at
reset (R1, R3, R190). -/

namespace Sys2Proof.Machine

open Sys2Proof.Claims

/-- Settles O1: the definition of a step, by the front of the queue. -/
theorem stepRunsFrontCommand : Obligations.StepRunsFrontCommand := by
  intro c rest s hpending
  unfold step
  rw [hpending]

/-- A row whose event leaves the queue of commands alone completes and leaves it alone. -/
theorem pending_of_done {s u : State} (h : u.pending = s.pending) : ∃ t, done s u = .next t ∧ t.pending = s.pending :=
  ⟨settle s u, rfl, by simpa using h⟩

/-- Settles O2: each row is an event that leaves the queue alone, and the settling leaves it alone too. -/
theorem everyCommandCompletesAndLeavesQueue : Obligations.EveryCommandCompletesAndLeavesQueue := by
  intro c s
  cases c using row_induction
  case hardwareReset => exact ⟨_, rfl, rfl⟩
  case write code hrow =>
    rw [hrow]
    exact pending_of_done (s.pending_commandWrite code)
  case argument hrow | enable hrow | release hrow | nothing hrow =>
    rw [hrow]
    exact pending_of_done rfl
  all_goals refine pending_of_done ?_
  case presenceTimerExpiry | lostTimerExpiry =>
    dsimp only
    repeat' split
    all_goals simp
  all_goals
    repeat' split
    all_goals simp

/-- Settles O8: each invariant at the values of reset. -/
theorem invariantsHoldAtReset : Obligations.InvariantsHoldAtReset :=
  ⟨⟨Nat.zero_le _, rfl, fun _ => Nat.zero_le _⟩, Settings.factory_inRange, ⟨Nat.zero_le _, trivial, rfl, rfl, rfl⟩,
    ImageBuilder.initial_coherent, Sequencer.initial_coherent, ⟨rfl, rfl, Nat.zero_le _, fun _ _ _ h => nomatch h⟩,
    Nat.zero_le _, rfl⟩

end Sys2Proof.Machine
end

section
/-! PROOFS. Words made of flags, read bit by bit; a 32-bit quantity and its two words (R163, R164). -/

namespace Sys2Proof.Machine

open Sys2Proof.Claims

/-! ## A row that makes no work pending -/

/-- An event that makes no work pending and after which the current frame stands is followed by nothing. -/
theorem done_id {s t : State} (hc : t.currentStands = true) (hw : t.workPending = s.workPending) : done s t = .next t :=
  congrArg Host.Outcome.next (settle_id hc hw)

/-! ## Flags (R164) -/

/-- The number whose binary digits, lowest first, are a list of flags. -/
def flagsNat : List Bool → Nat
  | [] => 0
  | b :: l => b.toNat + 2 * flagsNat l

/-- The digits are read back. -/
theorem testBit_flagsNat (l : List Bool) (n : Nat) : (flagsNat l).testBit n = l.getD n false := by
  induction l generalizing n with
  | nil => simp [flagsNat]
  | cons b l ih =>
    cases n with
    | zero =>
      rw [Nat.testBit_zero, flagsNat, Nat.add_mul_mod_self_left]
      cases b <;> rfl
    | succ n =>
      have hdiv : (b.toNat + 2 * flagsNat l) / 2 = flagsNat l := by
        have := b.toNat_le
        omega
      rw [Nat.testBit_succ, flagsNat, hdiv, ih, List.getD_cons_succ]

theorem getD_of_length_le {α : Type} {l : List α} {n : Nat} {d : α} (h : l.length ≤ n) : l.getD n d = d := by
  rw [List.getD_eq_getElem?_getD, List.getElem?_eq_none h]
  rfl

theorem getD_append_of_lt {α : Type} {l : List α} (m : List α) {n : Nat} (d : α) (h : n < l.length) :
    (l ++ m).getD n d = l.getD n d := by
  rw [List.getD_eq_getElem?_getD, List.getElem?_append_left h, List.getD_eq_getElem?_getD]

theorem getD_append_of_le {α : Type} {l : List α} (m : List α) {n : Nat} (d : α) (h : l.length ≤ n) :
    (l ++ m).getD n d = m.getD (n - l.length) d := by
  rw [List.getD_eq_getElem?_getD, List.getElem?_append_right h, List.getD_eq_getElem?_getD]

/-- The flags of a word are read back bit by bit, and the bits above them read as 0. -/
theorem getLsbD_flagsNat {l : List Bool} (h : l.length ≤ 16) (n : Nat) :
    (BitVec.ofNat 16 (flagsNat l)).getLsbD n = l.getD n false := by
  rw [BitVec.getLsbD_ofNat, testBit_flagsNat]
  by_cases hn : n < 16
  · simp [hn]
  · rw [getD_of_length_le (by omega), decide_eq_false hn, Bool.false_and]

/-- A bit above the flags reads as 0. -/
theorem getLsbD_flagsNat_above {l : List Bool} (h : l.length ≤ 16) {n : Nat} (hn : l.length ≤ n) :
    (BitVec.ofNat 16 (flagsNat l)).getLsbD n = false := by
  rw [getLsbD_flagsNat h, getD_of_length_le hn]

/-! ## Bits set one after the other -/

/-- A bit of what a run of elements sets, each the bit of its position if its test passes. -/
theorem getLsbD_foldl_setBit {α : Type} {w n : Nat} (f : α → Bool) (position : α → Nat) (hn : n < w) (l : List α)
    (x : BitVec w) :
    (l.foldl (fun m a => if f a then m ||| BitVec.ofNat w (2 ^ position a) else m) x).getLsbD n =
      (x.getLsbD n || l.any fun a => f a && decide (position a = n)) := by
  induction l generalizing x with
  | nil => simp
  | cons a l ih =>
    have hbit : (BitVec.ofNat w (2 ^ position a)).getLsbD n = decide (position a = n) := by
      rw [BitVec.getLsbD_ofNat, Nat.testBit_two_pow, decide_eq_true hn, Bool.true_and]
    rw [List.foldl_cons, ih, List.any_cons, ← Bool.or_assoc]
    congr 1
    cases f a
    · simp
    · rw [if_pos rfl, BitVec.getLsbD_or, hbit, Bool.true_and]

theorem mem_stations (p : Station) : p ∈ stations := by
  match p with
  | 0 | 1 | 2 | 3 | 4 | 5 | 6 | 7 => decide

/-- The mask of a test holds the stations that pass it. -/
theorem inMask_maskOf (f : Station → Bool) (p : Station) : inMask (maskOf f) p = f p := by
  rw [inMask, maskOf, getLsbD_foldl_setBit f Fin.val p.isLt, Bool.eq_iff_iff]
  simp only [BitVec.ofNat_eq_ofNat, BitVec.getLsbD_zero, Bool.false_or, List.any_eq_true, Bool.and_eq_true,
    decide_eq_true_eq]
  refine ⟨fun ⟨q, _, hq, hval⟩ => ?_, fun h => ⟨p, mem_stations p, h, rfl⟩⟩
  rwa [← Fin.ext hval]

/-! ## Pairs of words (R163) -/

/-- A 32-bit quantity is read back from its two words. -/
theorem joinPair_wordPair (low : Bool) (x : BitVec 32) (d : Word) :
    joinPair low ((wordPair low x).getD 0 d) ((wordPair low x).getD 1 d) = x := by
  have hjoin : x.extractLsb' 16 16 ++ x.extractLsb' 0 16 = x := by
    ext i hi
    simp only [BitVec.getElem_append, BitVec.getElem_extractLsb']
    split
    · rw [Nat.zero_add, BitVec.getLsbD_eq_getElem]
    · rw [BitVec.getLsbD_eq_getElem (by omega)]
      congr 1
      omega
  cases low
  · exact hjoin
  · exact hjoin

/-! ## The output pins (R160) -/

theorem State.pinWord_eq (s : State) :
    s.pinWord = BitVec.ofNat 16 (flagsNat [s.pinLevel 0, s.pinLevel 1, s.pinLevel 2, s.pinLevel 3]) := by
  simp only [State.pinWord, flagBit_eq_toNat_mul, flagsNat]
  congr 1
  omega

/-- Bit n of the pin word is the level of Pn. -/
theorem State.getLsbD_pinWord (s : State) (n : Pin) : s.pinWord.getLsbD n.val = s.pinLevel n := by
  rw [State.pinWord_eq, getLsbD_flagsNat (by simp)]
  match n with
  | 0 | 1 | 2 | 3 => rfl

theorem State.getLsbD_pinWord_above (s : State) {n : Nat} (hn : 4 ≤ n) : s.pinWord.getLsbD n = false := by
  rw [State.pinWord_eq]
  exact getLsbD_flagsNat_above (by simp) hn

end Sys2Proof.Machine
end

section
/-! PROOFS. Hardware reset, load completion and the blink generator (R151, R185 to R190). -/

namespace Sys2Proof.Machine

open Sys2Proof.Claims

/-! ## Hardware reset (R190) -/

theorem Transmitter.initial_slotEmpty (station : Station) : slotEmpty (Transmitter.initial station) :=
  ⟨rfl, rfl, rfl, rfl⟩

theorem Sequencer.initial_raceless : raceless Sequencer.initial :=
  ⟨rfl, rfl, rfl, rfl, rfl, rfl, rfl, rfl, rfl, rfl, rfl⟩

theorem LampUnit.initial_dark : dark LampUnit.initial := ⟨rfl, Four.get_replicate none, rfl, rfl⟩

theorem Entry.initial_cleared : cleared Entry.initial :=
  ⟨rfl, rfl, rfl, rfl, rfl, rfl, rfl, rfl, rfl, rfl, rfl, rfl, rfl⟩

/-- Every entry of the table after a reset of it (R75). -/
theorem PeerTable.get_initial (p : Station) : PeerTable.initial.entries.get p = Entry.initial :=
  Eight.get_replicate _ p

theorem PeerTable.initial_cleared (p : Station) : cleared (PeerTable.initial.entries.get p) := by
  rw [PeerTable.get_initial]
  exact Entry.initial_cleared

/-- While LOADING every pin is off (R150). -/
theorem State.pinLevel_of_loading {s : State} (h : s.cmd.unit = .loading) (p : Pin) : s.pinLevel p = false :=
  if_pos h

/-- Settles O9: the state after reset, block by block. -/
theorem hardwareResetValues : Obligations.HardwareResetValues := by
  intro station rate low memory s
  refine ⟨_, rfl, rfl, rfl, rfl, rfl, rfl, rfl, ?_, fun p => ?_, ⟨rfl, rfl, rfl⟩,
    ⟨rfl, rfl, rfl, rfl, Sequencer.initial_raceless⟩, rfl,
    ⟨LampUnit.initial_dark, fun p => ⟨State.pinLevel_of_loading rfl p, Four.get_replicate false p⟩, rfl⟩,
    ⟨rfl, rfl, rfl, rfl, rfl, rfl⟩, rfl, rfl, rfl⟩
  · exact ⟨rfl, rfl, Transmitter.initial_slotEmpty station, rfl, rfl, rfl, rfl, rfl, rfl, rfl, rfl, rfl, rfl, rfl, rfl⟩
  · exact PeerTable.initial_cleared p

/-! ## Load completion (R187 to R190) -/

/-- LOAD_COMPLETION at its instant. -/
theorem exec_loadCompletion {s : State} {i : Instant} (hloading : s.cmd.unit = .loading)
    (htimer : s.loader.loadTimer = some i) (hreached : reached s.tick i = true) :
    exec .loadCompletion s = done s s.putLoaded.startBlocks := by
  have hdue : s.loader.loadTimer.due s.tick = true := by rw [htimer]; exact hreached
  simp [exec, execLoadCompletion, hloading, hdue]

/-- The blocks that start make no work pending. -/
theorem done_startBlocks {s t : State} (hstands : t.currentStands = true) (hwork : t.workPending = s.workPending) :
    done s t.startBlocks = .next t.startBlocks :=
  done_id hstands hwork

/-- LOAD_COMPLETION is followed by nothing at the Transmitter. -/
theorem done_loadCompletion {s : State} (hstands : s.currentStands = true) :
    done s s.putLoaded.startBlocks = .next s.putLoaded.startBlocks := by
  have htx : s.putLoaded.tx = s.tx := by simp
  have hown : s.putLoaded.race.own = s.race.own := by simp
  exact done_startBlocks ((State.currentStands_congr htx hown).trans hstands) (State.workPending_congr htx hown)

/-! ### The settings the memory gives (R186, R189) -/

theorem clampTo_eq {lo hi : Nat} (h : lo ≤ hi) (v : Nat) : clampTo lo hi v = min (max v lo) hi := by
  unfold clampTo
  repeat' split
  all_goals omega

theorem memByte_lt (m : List Byte) (i : Nat) : memByte m i < 256 := (m.getD i 0).isLt

/-- A two-bit field taken with 3 as 2 (R189). -/
theorem pinField_cases (w : Word) (p : Pin) :
    (pinCode w.toNat p = 0 ∧ pinField w p = 0) ∨ (pinCode w.toNat p = 1 ∧ pinField w p = 1) ∨
      (2 ≤ pinCode w.toNat p ∧ pinField w p = 2) := by
  have hlt : w.toNat / 4 ^ p.val % 4 < 4 := Nat.mod_lt _ (by decide)
  simp only [pinField, pinCode]
  split <;> omega

theorem failSafeFrom_pinField (w : Word) (p : Pin) :
    failSafeFrom (pinCode w.toNat p) (failSafeOf (pinField w p)) := by
  rcases pinField_cases w p with ⟨h, h'⟩ | ⟨h, h'⟩ | ⟨h, h'⟩
  · exact .inl ⟨h, by rw [h']; rfl⟩
  · exact .inr (.inl ⟨h, by rw [h']; rfl⟩)
  · exact .inr (.inr ⟨h, by rw [h']; rfl⟩)

theorem functionFrom_pinField (w : Word) (p : Pin) :
    functionFrom (pinCode w.toNat p) (functionOf (pinField w p)) := by
  rcases pinField_cases w p with ⟨h, h'⟩ | ⟨h, h'⟩ | ⟨h, h'⟩
  · exact .inl ⟨h, by rw [h']; rfl⟩
  · exact .inr (.inl ⟨h, by rw [h']; rfl⟩)
  · exact .inr (.inr ⟨h, by rw [h']; rfl⟩)

/-- A byte as a word. -/
theorem toNat_word_memByte (m : List Byte) (i : Nat) : (word (memByte m i)).toNat = memByte m i := by
  have := memByte_lt m i
  rw [word, BitVec.toNat_ofNat, Nat.mod_eq_of_lt (by omega)]

/-- A pattern is four bits of a byte: the low ones for the first and the third step (R186). -/
theorem toNat_pattern_settingsOfMemory (m : List Byte) (k : Pin) :
    ((settingsOfMemory m).lampSteps.get k).pattern.toNat = memByte m (25 + k.val / 2) / 16 ^ (k.val % 2) % 16 := by
  rw [settingsOfMemory, Four.get_ofFn]
  exact BitVec.toNat_ofNat ..

theorem Settings.offset_settingsOfMemory (m : List Byte) (k : Pin) :
    ((settingsOfMemory m).lampSteps.get k).offset = min (memByte m (21 + k.val) * 50) 10000 := by
  rw [settingsOfMemory, Four.get_ofFn]
  exact (clampTo_eq (lo := 0) (hi := 10000) (by decide) _).trans (by rw [Nat.max_zero])

/-- What the loader's read came to, by the bytes it got (R187). -/
theorem memoryCheck_cases (m : List Byte) :
    (m.length < 32 → memoryCheck m = none) ∧
      (32 ≤ m.length → crc8 (m.take 31) ≠ m.getD 31 0 → memoryCheck m = some false) ∧
      (32 ≤ m.length → crc8 (m.take 31) = m.getD 31 0 → memoryCheck m = some true) := by
  refine ⟨fun h => if_pos h, fun hlen hcrc => ?_, fun hlen hcrc => ?_⟩
  all_goals rw [memoryCheck, if_neg (Nat.not_lt.mpr hlen), memByte]
  · rw [decide_eq_false fun h => hcrc (BitVec.eq_of_toNat_eq h)]
  · rw [hcrc, decide_eq_true rfl]

/-- The settings the memory gives, as the manual lists its bytes (R186, R189). -/
theorem settingsOfMemory_fields (m : List Byte) (b : Nat → Nat) (t : Settings) (hb : ∀ n, b n = (m.getD n 0).toNat)
    (ht : t = settingsOfMemory m) :
    (t.horizon = min (max (b 0) 16) 250 ∧ t.lostTimeout = min (max (b 1 * 256 + b 2) 100) 2000 ∧
      t.th0 = max (b 3 * 256 + b 4) 1 ∧ t.th1 = max (b 5 * 256 + b 6) 1 ∧
      (∀ c, c < 4 → t.surfaceMap.getLsbD c = (m.getD 7 0).getLsbD c) ∧
      t.blendShift = min (max (b 7 / 16 % 8) 1) 6 ∧
      t.headingThreshold = min (max (b 8 * 256 + b 9) 1) 32768 ∧ t.reportSpacing = min (max (b 10) 4) 50 ∧
      t.lobbyWindow = min (max (b 11) 5) 60 ∧ t.minField = min (max (b 12) 1) 8 ∧
      t.startLead = min (max (b 13 * 256 + b 14) 3000) 10000 ∧
      t.raceLimit = min (max (b 15 * 256 + b 16) 60) 1800 ∧ t.finishGrace = min (max (b 17) 5) 60 ∧
      t.eventMask.toNat = b 18 * 65536 + b 19 * 256 + b 20 ∧ t.greenHold = min (b 27 * 256 + b 28) 5000) ∧
    (∀ k : Pin, (t.lampSteps.get k).offset = min (b (21 + k.val) * 50) 10000 ∧
      failSafeFrom (pinCode (b 29) k) (t.failSafe.get k) ∧ functionFrom (pinCode (b 30) k) (t.functions.get k)) ∧
    (t.lampSteps.get 0).pattern.toNat = b 25 % 16 ∧ (t.lampSteps.get 1).pattern.toNat = b 25 / 16 ∧
    (t.lampSteps.get 2).pattern.toNat = b 26 % 16 ∧ (t.lampSteps.get 3).pattern.toNat = b 26 / 16 := by
  obtain rfl : b = memByte m := funext hb
  subst ht
  have hbyte := memByte_lt m
  have hth : ∀ v, v ≤ 65535 → clampTo 1 65535 v = max v 1 := fun v hv => by rw [clampTo_eq (by decide)]; omega
  have hword : ∀ i, memWord m i ≤ 65535 := fun i => by
    have := hbyte i
    have := hbyte (i + 1)
    unfold memWord
    omega
  refine ⟨⟨clampTo_eq (by decide) _, clampTo_eq (by decide) _, hth _ (hword 3), hth _ (hword 5), fun c hc => ?_,
      clampTo_eq (by decide) _, clampTo_eq (by decide) _, clampTo_eq (by decide) _, clampTo_eq (by decide) _,
      clampTo_eq (by decide) _, clampTo_eq (by decide) _, clampTo_eq (by decide) _, clampTo_eq (by decide) _, ?_,
      (clampTo_eq (lo := 0) (hi := 5000) (by decide) _).trans (by rw [Nat.max_zero]; rfl)⟩,
    fun k => ⟨Settings.offset_settingsOfMemory m k, ?_, ?_⟩, ?_, ?_, ?_, ?_⟩
  · have hmap : (settingsOfMemory m).surfaceMap = BitVec.ofNat 4 (m.getD 7 0).toNat := rfl
    rw [hmap, BitVec.getLsbD_ofNat]
    simp [hc, BitVec.getLsbD]
  · have hmask : (settingsOfMemory m).eventMask =
        BitVec.ofNat 24 (memByte m 18 * 65536 + memByte m 19 * 256 + memByte m 20) := rfl
    have h18 := hbyte 18
    have h19 := hbyte 19
    have h20 := hbyte 20
    rw [hmask, BitVec.toNat_ofNat, Nat.mod_eq_of_lt (by omega)]
  · have hfield := failSafeFrom_pinField (word (memByte m 29)) k
    rw [toNat_word_memByte] at hfield
    rwa [settingsOfMemory, Four.get_ofFn]
  · have hfield := functionFrom_pinField (word (memByte m 30)) k
    rw [toNat_word_memByte] at hfield
    rwa [settingsOfMemory, Four.get_ofFn]
  · rw [toNat_pattern_settingsOfMemory]
    exact congrArg (· % 16) (Nat.div_one _)
  · rw [toNat_pattern_settingsOfMemory]
    have hhigh : memByte m 25 / 16 < 16 := Nat.div_lt_of_lt_mul (hbyte 25)
    exact Nat.mod_eq_of_lt hhigh
  · rw [toNat_pattern_settingsOfMemory]
    exact congrArg (· % 16) (Nat.div_one _)
  · rw [toNat_pattern_settingsOfMemory]
    have hhigh : memByte m 26 / 16 < 16 := Nat.div_lt_of_lt_mul (hbyte 26)
    exact Nat.mod_eq_of_lt hhigh

/-! ### The settings put in force (R187, R188) -/

/-- The factory table put in force, with its event (R188). -/
def State.putFactory (s : State) (detail : Word) : State :=
  (s.setLoader { s.loader with loadTimer := none, settings := Settings.factory, defaulted := true }).post
    .configDefaulted s.own detail s.loader.loadTimer.instant

theorem State.putLoaded_of_none {s : State} (h : memoryCheck s.loader.memory = none) : s.putLoaded = s.putFactory 1 := by
  rw [State.putLoaded, h]
  rfl

theorem State.putLoaded_of_false {s : State} (h : memoryCheck s.loader.memory = some false) :
    s.putLoaded = s.putFactory 2 := by
  rw [State.putLoaded, h]
  rfl

theorem State.putLoaded_of_true {s : State} (h : memoryCheck s.loader.memory = some true) :
    s.putLoaded = s.setLoader { s.loader with
      loadTimer := none, settings := settingsOfMemory s.loader.memory, defaulted := false } := by
  rw [State.putLoaded, h]

/-- The factory table masks no event, so CONFIG_DEFAULTED joins the empty queue (R180, R189). -/
theorem State.records_putFactory {s : State} {i : Instant} {detail : Word} (htimer : s.loader.loadTimer = some i)
    (hempty : s.events.records = []) :
    (s.putFactory detail).events.records = [⟨.configDefaulted, s.own, detail, i⟩] := by
  rw [State.putFactory, State.records_post, htimer]
  show postRecord Settings.factory.eventMask s.own _ s.events.records = _
  rw [hempty]
  exact postRecord_nil rfl

/-- What is put in force touches the loader and the Event Queue alone. -/
theorem State.putLoaded_eq (s : State) :
    s.putLoaded = { s with loader := s.putLoaded.loader, events := s.putLoaded.events } := by
  unfold State.putLoaded
  split <;> rfl

theorem State.startBlocks_putLoaded_eq (s : State) :
    s.putLoaded.startBlocks = { s with
      loader := s.putLoaded.loader, cmd := { s.cmd with unit := .idle }, frame := { s.frame with sampling := true }
      rx := { s.rx with monitor := .busy }, tx := { s.tx with stuckWatch := some (s.tick + 20000) }
      events := s.putLoaded.events
      lamp := { s.lamp with blinkPhase := 0, blinkTimer := some (s.tick + 62500) } } :=
  (congrArg State.startBlocks s.putLoaded_eq).trans rfl

/-- What starts at load completion, whatever the Transmitter sends. -/
theorem State.settle_startBlocks_putLoaded (s : State) :
    settle s s.putLoaded.startBlocks = s.putLoaded.startBlocks.loseCurrent :=
  settle_of_work (by rw [State.startBlocks_putLoaded_eq]; rfl)

/-- Settles O10: what is put in force by the check of the memory, and the blocks that start. -/
theorem loadCompletionStartsPart : Obligations.LoadCompletionStartsPart := by
  refine ⟨fun s i hloading htimer hreached hempty => ?_, settingsOfMemory_fields⟩
  have hexec : exec .loadCompletion s = .next s.putLoaded.startBlocks.loseCurrent := by
    rw [exec_loadCompletion hloading htimer hreached, done, State.settle_startBlocks_putLoaded]
  obtain ⟨hshort, hwrong, hright⟩ := memoryCheck_cases s.loader.memory
  refine ⟨_, hexec, ?_, ?_, fun hlen => ?_, fun hlen hcrc => ?_, fun hlen hcrc => ?_⟩
  · rw [State.loseCurrent_eq, State.startBlocks_putLoaded_eq]
  · have hwatch : s.putLoaded.startBlocks.loseCurrent.tx.stuckWatch = s.putLoaded.startBlocks.tx.stuckWatch := by simp
    rw [hwatch, State.startBlocks_putLoaded_eq]
  all_goals rw [State.loseCurrent_eq, State.startBlocks_putLoaded_eq]
  · rw [State.putLoaded_of_none (hshort hlen)]
    exact ⟨rfl, State.records_putFactory htimer hempty⟩
  · rw [State.putLoaded_of_false (hwrong hlen hcrc)]
    exact ⟨rfl, State.records_putFactory htimer hempty⟩
  · rw [State.putLoaded_of_true (hright hlen hcrc)]
    exact ⟨rfl, hempty⟩

end Sys2Proof.Machine
end

section
/-! PROOFS. The take of a command, the writes of the game port, and the output pins (R160, R162 to R168). -/

namespace Sys2Proof.Machine

open Sys2Proof.Claims

/-! ## The take of a command (R165, R166, R168) -/

/-- The part as a command's work sees it: the arguments copied, COMMAND_LOST cleared. -/
def State.began (s : State) : State := s.setCmd s.cmd.beginTake

/-- The work of a command sees the arguments as the game wrote them. -/
@[simp] theorem State.arg_began (s : State) (i : Nat) : s.began.arg i = argument s i := rfl

/-- The words of an argument pair as the work sees them. -/
@[simp] theorem State.argPair_began (s : State) (i : Nat) : s.began.argPair i = argumentPair s i := rfl

/-- A command taken in IDLE, by what its work comes to. -/
theorem State.take_eq {s u : State} {work : State → Answer} {r : Result} {reply : List Word}
    (hidle : s.cmd.unit = .idle) (hwork : work s.began = ⟨u, r, reply⟩) (hcmd : u.cmd = s.began.cmd) :
    s.take work = u.setCmd (taken s r reply) := by
  rw [State.take_idle hidle]
  change (work s.began).state.setCmd { (work s.began).state.cmd with
    unit := .busy (work s.began).result (work s.began).reply s.tick } = _
  rw [hwork, hcmd]
  rfl

/-- A command whose work leaves the Transmitter and the own race state alone. -/
theorem done_take {s u : State} {work : State → Answer} {r : Result} {reply : List Word}
    (hstands : s.currentStands = true) (hidle : s.cmd.unit = .idle) (hwork : work s.began = ⟨u, r, reply⟩)
    (hcmd : u.cmd = s.began.cmd) (htx : u.tx = s.tx) (hown : u.race.own = s.race.own) :
    done s (s.take work) = .next (u.setCmd (taken s r reply)) := by
  rw [State.take_eq hidle hwork hcmd]
  exact done_same hstands htx hown

/-- A command that only answers (R168). -/
theorem done_take_answer {s : State} {work : State → Answer} {r : Result} {reply : List Word}
    (hstands : s.currentStands = true) (hidle : s.cmd.unit = .idle) (hwork : work s.began = ⟨s.began, r, reply⟩) :
    done s (s.take work) = .next { s with cmd := taken s r reply } :=
  done_take (u := s.began) hstands hidle hwork rfl rfl rfl

/-! ## Codes, completion and the other writes (R162, R165 to R168) -/

/-- The codes that name no command (R168, R169). -/
theorem commandOf_eq_none {code : Word} (h : code.toNat = 0 ∨ 16 < code.toNat) : commandOf code = none := by
  unfold commandOf
  split
  case h_17 => rfl
  all_goals omega

/-- A code that names no command, taken in IDLE. -/
theorem exec_unknownCommand_of_none {code : Word} (h : commandOf code = none) (s : State) :
    exec (.unknownCommand code) s = done s (s.take State.unknownCommand) := by
  simp [exec, execUnknownCommand, h]

/-- A write to the command word is the write of its code. -/
theorem exec_portWrite_command (code : Word) (s : State) :
    exec (.portWrite 0x020 code) s = done s (s.commandWrite code) := rfl

/-- A code written outside IDLE is lost, whatever the code (R167). -/
theorem exec_portWrite_lost {s : State} (code : Word) (h : s.cmd.unit ≠ .idle) :
    exec (.portWrite 0x020 code) s = exec (.commandLost code) s := by
  rw [exec_portWrite_command, State.commandWrite, State.take_lost h]
  simp [exec, execCommandLost, h]

/-- The words of a completed reply, zeros after it (R165). -/
theorem getD_replyBuffer (reply : List Word) (i : Nat) :
    (replyBuffer reply).getD i 0 = if i < reply.length then reply.getD i 0 else 0 := by
  unfold replyBuffer
  split
  case isTrue h => exact getD_append_of_lt _ _ h
  case isFalse h =>
    rw [getD_append_of_le _ _ (Nat.not_lt.mp h), List.getD_eq_getElem?_getD, List.getElem?_replicate]
    split <;> rfl

/-- COMMAND_COMPLETION of a busy unit. -/
theorem exec_commandCompletion {s : State} {r : Result} {reply : List Word} {at' : Instant}
    (hstands : s.currentStands = true) (hbusy : s.cmd.unit = .busy r reply at') :
    exec .commandCompletion s = .next { s with
      cmd := { s.cmd with
        unit := .idle, lastResult := r, replyLength := reply.length, reply := replyBuffer reply } } := by
  simp only [exec, execCommandCompletion, hbusy]
  exact done_same hstands rfl rfl

/-- A write at an address of the argument buffer. -/
theorem State.portWrite_argument (s : State) {address : BitVec 9} (value : Word) (h : address.toNat < 16) :
    s.portWrite address value = s.writeArgument address.toNat value := if_pos h

/-- A write at an address that takes none. -/
theorem State.portWrite_nothing (s : State) {address : BitVec 9} (value : Word) (h : 16 ≤ address.toNat)
    (hcommand : address.toNat ≠ 0x020) (henable : address.toNat ≠ 0x022) (hrelease : address.toNat ≠ 0x028) :
    s.portWrite address value = s := by
  simp [State.portWrite, Nat.not_lt.mpr h, hcommand, henable, hrelease]

/-- Settles O46: a code outside 1 to 16 completes with BAD_ARGUMENT, and each port address does what the map says. -/
theorem completionAndUnknownCode : Obligations.CompletionAndUnknownCode := by
  refine ⟨fun s code hstands hidle hcode => ?_, fun s n c hc => ?_, fun s code => ⟨fun hidle hcode => ?_, ?_⟩,
    fun s r reply at' hstands hbusy hlen => ?_, fun s value address hstands => ⟨fun h => ?_, fun h hc he hr => ?_⟩⟩
  · rw [exec_unknownCommand_of_none (commandOf_eq_none hcode)]
    exact done_take_answer hstands hidle rfl
  · rw [exec_of_commandTable hc, exec_portWrite_command]
  · rw [exec_unknownCommand_of_none (commandOf_eq_none hcode), exec_portWrite_command, State.commandWrite,
      commandOf_eq_none hcode, Option.getD_none]
  · exact exec_portWrite_lost code
  · exact ⟨_, exec_commandCompletion hstands hbusy, rfl, rfl, length_replyBuffer hlen,
      fun i _ => getD_replyBuffer reply i⟩
  · simp only [exec, execPortWrite, s.portWrite_argument value h]
    exact done_same hstands rfl rfl
  · simp only [exec, execPortWrite, s.portWrite_nothing value h hc he hr]
    exact done_same hstands rfl rfl

/-! ## SET_OUTPUT (R150, R160) -/

/-- The levels of the pins see nothing of the Command Unit but that it is LOADING. -/
theorem State.pinWord_setCmd {s : State} {c : CommandUnit} (h : c.unit = .loading ↔ s.cmd.unit = .loading) :
    (s.setCmd c).pinWord = s.pinWord := by
  have hlevel : ∀ p, (s.setCmd c).pinLevel p = s.pinLevel p := fun p => 
    ite_congr (propext h) (fun _ => rfl) fun _ => rfl
  simp only [State.pinWord, hlevel]

theorem State.pinWord_began (s : State) : s.began.pinWord = s.pinWord := State.pinWord_setCmd Iff.rfl

/-- A refusal answers with the levels of the pins. -/
theorem State.refuseOutput_began (s : State) (r : Result) : s.began.refuseOutput r = ⟨s.began, r, [s.pinWord]⟩ := by
  rw [State.refuseOutput, State.pinWord_began]

/-- SET_OUTPUT of a pin that is not PLAIN. -/
theorem State.setOutput_of_not_plain {s : State} {p : Pin} (hp : (s.arg 0).toNat = p.val)
    (hplain : s.settings.functions.get p ≠ .plain) : s.setOutput = s.refuseOutput .wrongState := by
  obtain ⟨n, hn⟩ := p
  obtain rfl : (s.arg 0).toNat = n := hp
  rw [State.setOutput, dif_pos hn, if_pos hplain]

/-- SET_OUTPUT of a PLAIN pin to neither of the two levels. -/
theorem State.setOutput_of_bad_level {s : State} {p : Pin} (hp : (s.arg 0).toNat = p.val)
    (hplain : s.settings.functions.get p = .plain) (hlevel : 1 < (s.arg 1).toNat) :
    s.setOutput = s.refuseOutput .badArgument := by
  obtain ⟨n, hn⟩ := p
  obtain rfl : (s.arg 0).toNat = n := hp
  rw [State.setOutput, dif_pos hn, if_neg (Classical.not_not.mpr hplain), if_neg (by bv_omega), if_neg (by bv_omega)]

/-- SET_OUTPUT of a PLAIN pin to a level. -/
theorem State.setOutput_of_level {s : State} {p : Pin} (hp : (s.arg 0).toNat = p.val)
    (hplain : s.settings.functions.get p = .plain) (hlevel : (s.arg 1).toNat ≤ 1) :
    s.setOutput = s.driveOutput p (decide (s.arg 1 = 1)) := by
  obtain ⟨n, hn⟩ := p
  obtain rfl : (s.arg 0).toNat = n := hp
  rw [State.setOutput, dif_pos hn, if_neg (Classical.not_not.mpr hplain)]
  rcases (by bv_omega : s.arg 1 = 0 ∨ s.arg 1 = 1) with h | h
  · rw [if_pos h, h]
    rfl
  · rw [if_neg (by rw [h]; decide), if_pos h, h]
    rfl

/-- The part after a PLAIN pin is driven, before its unit is BUSY. -/
def State.driven (s : State) (p : Pin) (level : Bool) : State :=
  s.began.setLamp { s.lamp with plain := s.lamp.plain.set p level }

/-- A PLAIN pin drives the level that was set (R150). -/
theorem State.pinLevel_of_plain {s : State} {p : Pin} (hidle : s.cmd.unit ≠ .loading)
    (hplain : s.settings.functions.get p = .plain) : s.pinLevel p = s.lamp.plain.get p := by
  rw [State.pinLevel, if_neg hidle, hplain]

/-- Settles O58: the pin word read bit by bit, and the level driven at a PLAIN pin. -/
theorem setOutputDrivesPlainPin : Obligations.SetOutputDrivesPlainPin := by
  refine ⟨fun s => ⟨s.getLsbD_pinWord, fun n => s.getLsbD_pinWord_above⟩,
    fun s hstands hidle => ⟨fun h => ?_, fun p hp => ⟨fun hplain => ?_, fun hplain hlevel => ?_, fun hplain hlevel => ?_⟩⟩⟩
  · refine done_take_answer hstands hidle ?_
    rw [State.setOutput, dif_neg (by rw [State.arg_began]; omega), State.refuseOutput_began]
  · refine done_take_answer hstands hidle ?_
    rw [State.setOutput_of_not_plain (s := s.began) hp hplain, State.refuseOutput_began]
  · refine done_take_answer hstands hidle ?_
    rw [State.setOutput_of_bad_level (s := s.began) hp hplain hlevel, State.refuseOutput_began]
  · have hnot : s.cmd.unit ≠ .loading := by rw [hidle]; exact nofun
    have hword : ∀ r reply, ((s.driven p (decide (argument s 1 = 1))).setCmd (taken s r reply)).pinWord =
        (s.driven p (decide (argument s 1 = 1))).pinWord := fun r reply =>
      State.pinWord_setCmd ⟨nofun, fun h => absurd h hnot⟩
    refine ⟨_, done_take (u := s.driven p (decide (argument s 1 = 1))) hstands hidle
      (State.setOutput_of_level hp hplain hlevel) rfl rfl rfl, ?_, ?_, fun q hq => ?_, ?_⟩
    · rw [hword]
      rfl
    · simp [State.driven]
    · simp [State.driven, hq]
    · rw [State.getLsbD_pinWord, State.pinLevel_of_plain]
      · simp [State.driven]
      · exact UnitState.noConfusion
      · exact hplain

end Sys2Proof.Machine
end

section
/-! PROOFS. The decay of a correction, line activity and the blink generator (R19 to R21, R130, R151). -/

namespace Sys2Proof.Machine

open Sys2Proof.Claims

/-! ## Decay (R130) -/

theorem decay_zero {k : Nat} : decay k 0 = 0 := by
  simp [decay]

/-- The distance from 0 after a decay, and its side. -/
theorem natAbs_decay (k : Nat) (c : Int) :
    (decay k c).natAbs = c.natAbs - max 1 (c.natAbs / 2 ^ k) ∧ 0 ≤ decay k c * c := by
  unfold decay
  dsimp only
  split
  case isTrue h => exact ⟨by rw [Int.natAbs_neg, Int.natAbs_natCast], Int.mul_nonneg_of_nonpos_of_nonpos (by omega)
    (Int.le_of_lt h)⟩
  case isFalse h => exact ⟨Int.natAbs_natCast _, Int.mul_nonneg (Int.natCast_nonneg _) (by omega)⟩

/-- Settles O15: a correction moves toward 0 by the larger of 1 and its 2^k-th part, and does not cross it. -/
theorem decayMovesTowardZero : Obligations.DecayMovesTowardZero := by
  intro k c _
  obtain ⟨habs, hside⟩ := natAbs_decay k c
  refine ⟨decay_zero, fun hc => ⟨habs, ?_, hside⟩⟩
  have hpos : 0 < c.natAbs := Int.natAbs_pos.mpr hc
  omega

/-! ## Line activity (R19 to R21, R39, R48) -/

/-- Settles O20: what LINE_BUSY and START_DELIMITER_RECOGNISED write; neither makes work pending. -/
theorem lineBusyAndStartDelimiter : Obligations.LineBusyAndStartDelimiter := by
  refine fun s hstands => ⟨fun hidle => ?_, fun hbusy hawaiting => ?_, fun hawaiting => ?_⟩
  · simp only [exec, execLineBusy, hidle, if_true]
    exact done_id hstands rfl
  · simp only [exec, execStartDelimiterRecognised, hbusy, hawaiting, and_self, if_true]
    exact done_same hstands rfl rfl
  · simp only [exec, execStartDelimiterRecognised, hawaiting, Bool.false_eq_true, and_false, if_false]
    exact done_same hstands rfl rfl

/-! ## The blink generator (R151) -/

/-- The timer and the phase of the blink generator. -/
def LampUnit.sameBlink (l m : LampUnit) : Prop := m.blinkTimer = l.blinkTimer ∧ m.blinkPhase = l.blinkPhase

theorem State.goOffline_sameBlink (s : State) : s.lamp.sameBlink s.goOffline.state.lamp := by
  unfold State.goOffline
  split
  · exact ⟨rfl, rfl⟩
  · split
    · have hlamp : (s.placeControl (.withdraw 2)).lamp = s.lamp := by simp
      have hdrop : (s.placeControl (.withdraw 2)).lamp.drop.blinkTimer = s.lamp.blinkTimer ∧
          (s.placeControl (.withdraw 2)).lamp.drop.blinkPhase = s.lamp.blinkPhase := by rw [hlamp]; exact ⟨rfl, rfl⟩
      exact hdrop
    · exact ⟨rfl, rfl⟩

theorem State.configure_sameBlink (s : State) : s.lamp.sameBlink s.configure.state.lamp := by
  unfold State.configure State.putSettings
  repeat' split
  all_goals exact ⟨rfl, rfl⟩

/-- A command whose work keeps the blink generator, taken or lost. -/
theorem sameBlink_take {s t : State} {work : State → Answer} (hwork : ∀ u : State, u.lamp.sameBlink (work u).state.lamp)
    (h : done s (s.take work) = .next t) : s.lamp.sameBlink t.lamp := by
  refine of_done (P := fun u => s.lamp.sameBlink u.lamp) h (fun hu => ?_) ?_
  · simpa using hu
  · exact State.take_property (Q := fun u => s.lamp.sameBlink u.lamp) (fun _ _ hu => hu) ⟨rfl, rfl⟩ fun _ => hwork _

/-- Settles O42: the two blink clocks, their timer, and what starts, keeps and stops it. -/
theorem blinkGeneratorRuns : Obligations.BlinkGeneratorRuns := by
  intro s i hstands hreached
  refine ⟨rfl, decide_eq_decide.mpr Nat.lt_succ_iff, fun htimer => ?_, fun hloading htimer => ?_, fun c t hc h => ?_,
    fun station rate low memory => ⟨_, rfl, rfl⟩⟩
  · have hdue : Timer.due s.tick (some i) = true := hreached
    refine ⟨s.setLamp { s.lamp with blinkPhase := s.lamp.blinkPhase + 1, blinkTimer := some (i + 62500) },
      ?_, rfl, rfl, Fin.val_add _ _⟩
    simp only [exec, execBlinkTimerExpiry, hdue, if_true, htimer]
    exact done_same hstands rfl rfl
  · refine ⟨_, (exec_loadCompletion hloading htimer hreached).trans (done_loadCompletion hstands), ?_⟩
    rw [State.startBlocks_putLoaded_eq]
    exact ⟨rfl, rfl⟩
  · simp only [List.mem_cons, List.not_mem_nil, or_false] at hc
    rcases hc with rfl | rfl | rfl
    · exact sameBlink_take (work := State.restart) (fun _ => ⟨rfl, rfl⟩) h
    · exact sameBlink_take State.goOffline_sameBlink h
    · exact sameBlink_take State.configure_sameBlink h

end Sys2Proof.Machine
end

section
/-! PROOFS. What the game port shows: the event rule, the pins, the status words and the image window (R149 to R151, R158
to R168, R179 to R183). -/

namespace Sys2Proof.Machine

open Sys2Proof.Claims

/-! ## The Event Queue's rule (R181) -/

theorem overflowHeld_eq_false {q : List EventRecord} (h : ∀ x ∈ q, x.kind ≠ .overflow) : overflowHeld q = false := by
  simpa [overflowHeld] using h

/-- A count of one more dropped event leaves every record but the OVERFLOW record. -/
theorem map_countDropped {q : List EventRecord} (h : ∀ x ∈ q, x.kind ≠ .overflow) :
    q.map EventRecord.countDropped = q :=
  (List.map_congr_left fun x hx => if_neg (h x hx)).trans (List.map_id q)

/-- Settles O59: masked, joined, turned into an OVERFLOW record, or counted into the one held. -/
theorem eventPostRule : Obligations.EventPostRule := by
  refine fun mask own r q => ⟨fun p hp hset => ?_, fun hclear => ?_⟩
  · refine if_pos ?_
    rw [EventKind.masked, EventKind.position_eq_maskPosition, hp]
    exact hset
  have hmask : r.kind.masked mask = false := EventKind.masked_eq_false hclear
  refine ⟨fun hnone hlen => ?_, fun hnone hlen => ?_, fun rest n p a hq hrest => ?_⟩
  · simp [postRecord, hmask, overflowHeld_eq_false hnone, hlen]
  · simp [postRecord, hmask, overflowHeld_eq_false hnone, hlen]
  · have hheld : overflowHeld q = true := by simp [hq, overflowHeld]
    simp only [postRecord, hmask, hheld, Bool.false_eq_true, if_false, if_true]
    rw [hq, List.map_append, map_countDropped hrest]
    by_cases hn : n = 65535#16 <;> simp [EventRecord.countDropped, satInc, hn]

/-! ## The pins (R150, R151, R158, R159) -/

theorem TxPhase.isFault_iff {x : TxPhase} : x.isFault = true ↔ x = .stuck ∨ x = .disabled := by
  cases x <;> simp [TxPhase.isFault]

theorem LampUnit.failSafeLevel_eq (l : LampUnit) (v : FailSafe) :
    l.failSafeLevel v = (decide (v = .on) || (decide (v = .blink) && l.fastBlink)) := by
  cases v <;> simp [LampUnit.failSafeLevel]

/-- The peers present are those whose entry is not ABSENT (R73). -/
theorem State.mem_presentPeers {s : State} {q : Station} :
    q ∈ s.presentPeers ↔ q ≠ s.own ∧ (s.entry q).state ≠ .absent := by
  simp [State.presentPeers, mem_stations]

theorem State.pinLevel_of_lamp {s : State} {p : Pin} (hunit : s.cmd.unit ≠ .loading)
    (hlamp : s.settings.functions.get p = .lamp) : s.pinLevel p = s.lampLevel p := by
  rw [State.pinLevel, if_neg hunit, hlamp]

theorem State.pinLevel_of_link {s : State} {p : Pin} (hunit : s.cmd.unit ≠ .loading)
    (hlink : s.settings.functions.get p = .link) : s.pinLevel p = s.linkLevel := by
  rw [State.pinLevel, if_neg hunit, hlink]

/-- The level of a LINK pin while the Transmitter is well (R159). -/
theorem State.linkLevel_of_well {s : State} (hwell : s.tx.phase.isFault ≠ true) :
    s.linkLevel = if s.race.own = .offline then false else if s.presentPeers.isEmpty then s.lamp.slowBlink else true :=
  if_neg hwell

/-- No peer is present when every other entry is ABSENT. -/
theorem State.isEmpty_presentPeers {s : State} (h : ∀ q, q ≠ s.own → (s.entry q).state = .absent) :
    s.presentPeers.isEmpty = true := by
  refine List.isEmpty_iff.mpr (List.eq_nil_iff_forall_not_mem.mpr fun q hq => ?_)
  obtain ⟨hother, hpresent⟩ := State.mem_presentPeers.mp hq
  exact hpresent (h q hother)

/-- Settles O44: the level of a pin by its function, and of a LINK pin by the link. -/
theorem pinLevelsFollowFunction : Obligations.PinLevelsFollowFunction := by
  refine fun s p => ⟨fun hloading => s.pinLevel_of_loading hloading p, fun hunit =>
    ⟨State.pinLevel_of_plain hunit, fun hlamp hstuck hdisabled => ?_, fun hlamp hfault => ?_, fun hlink hfault => ?_,
      fun hlink hstuck hdisabled => ?_⟩⟩
  · have hwell : s.tx.phase.isFault ≠ true := by simp [TxPhase.isFault_iff, hstuck, hdisabled]
    exact (State.pinLevel_of_lamp hunit hlamp).trans (if_neg hwell)
  · rw [State.pinLevel_of_lamp hunit hlamp, ← LampUnit.failSafeLevel_eq]
    exact if_pos (TxPhase.isFault_iff.mpr hfault)
  · exact (State.pinLevel_of_link hunit hlink).trans (if_pos (TxPhase.isFault_iff.mpr hfault))
  · have hwell : s.tx.phase.isFault ≠ true := by simp [TxPhase.isFault_iff, hstuck, hdisabled]
    rw [State.pinLevel_of_link hunit hlink, State.linkLevel_of_well hwell]
    refine ⟨fun hown => if_pos hown, fun hown habsent => ?_, fun q hown hother hpresent => ?_⟩
    · rw [if_neg hown, if_pos (State.isEmpty_presentPeers habsent)]
    · have hsome : s.presentPeers.isEmpty = false :=
        List.isEmpty_eq_false_iff.mpr (List.ne_nil_of_mem (State.mem_presentPeers.mpr ⟨hother, hpresent⟩))
      rw [if_neg hown, hsome]
      rfl

/-! ## A code written (R166, R167) -/

/-- The sixteen commands and the writes to the command word. -/
theorem exec_eq_commandWrite {c : Instr}
    (hc : c ∈ [.configure, .readConfig, .goOnline, .goOffline, .restart, .enter, .cancelEntry, .postCar, .lap, .quit,
      .openImage, .readResults, .ackResults, .readPeer, .readHealth, .setOutput] ∨
        ∃ code, c = .portWrite 0x020 code) :
    ∃ code, ∀ s, exec c s = done s (s.commandWrite code) := by
  rcases hc with hc | ⟨code, rfl⟩
  · have htable : c ∈ commandTable.map Prod.snd := hc
    obtain ⟨⟨n, c'⟩, hmem, rfl⟩ := List.mem_map.mp htable
    exact ⟨_, exec_of_commandTable hmem⟩
  · exact ⟨code, exec_portWrite_command code⟩

/-- A lost code sets COMMAND_LOST and does nothing else. -/
theorem done_lost {s : State} (hstands : s.currentStands = true) :
    done s (s.setCmd { s.cmd with lost := true }) = .next { s with cmd := { s.cmd with lost := true } } :=
  done_same hstands rfl rfl

/-- Settles O45: a code written outside IDLE is lost, and a take clears COMMAND_LOST. -/
theorem codeOutsideIdleIsLost : Obligations.CodeOutsideIdleIsLost := by
  intro s c hstands hc
  obtain ⟨code, hexec⟩ := exec_eq_commandWrite hc
  refine ⟨fun hbusy => ?_, fun hbusy code' => ?_, fun hidle => ⟨_, hexec s, ?_⟩⟩
  · rw [hexec, State.commandWrite, State.take_lost hbusy]
    exact done_lost hstands
  · simp only [exec, execCommandLost, hbusy, if_false]
    exact done_lost hstands
  · obtain ⟨r, reply, -, hcmd⟩ := State.cmd_commandWrite_of_idle hidle code
    have hkept : (settle s (s.commandWrite code)).cmd = (s.commandWrite code).cmd := by simp
    rw [hkept, hcmd]
    rfl

/-! ## The status words (R164) -/

theorem unitCode_le (u : UnitState) : unitCode u ≤ 2 := by
  cases u <;> simp [unitCode]

theorem resultCode_le (r : Result) : resultCode r ≤ 8 := by
  cases r <;> simp [resultCode]

theorem UnitState.code_eq (u : UnitState) : u.code = unitCode u := by
  cases u <;> rfl

theorem Result.code_eq (r : Result) : r.code = resultCode r := by
  cases r <;> rfl

theorem OwnState.code_eq (o : OwnState) : o.code = ownCode o := by
  cases o <;> rfl

theorem State.txCode_eq (s : State) : s.txState.code = txCode s := by
  unfold State.txState txCode
  cases s.tx.phase with
  | ready => exact apply_ite TxState.code _ _ _
  | _ => rfl

theorem State.txCode_le (s : State) : txCode s ≤ 5 := by
  unfold txCode
  split
  · split <;> omega
  all_goals omega

/-- The number the command half of the status word holds. -/
def CommandUnit.statusNat (c : CommandUnit) : Nat :=
  unitCode c.unit + resultCode c.lastResult * 4 + c.replyLength * 64 + flagBit c.lost 11

theorem CommandUnit.statusWord_eq (c : CommandUnit) : c.statusWord = BitVec.ofNat 16 c.statusNat := by
  rw [CommandUnit.statusWord, UnitState.code_eq, Result.code_eq]
  rfl

theorem CommandUnit.status_codes (c : CommandUnit) :
    c.statusWord.toNat % 4 = unitCode c.unit ∧ c.statusWord.toNat / 4 % 16 = resultCode c.lastResult := by
  have hunit := unitCode_le c.unit
  have hresult := resultCode_le c.lastResult
  rw [CommandUnit.statusWord_eq, BitVec.toNat_ofNat, CommandUnit.statusNat, flagBit_eq_toNat_mul]
  omega

theorem CommandUnit.status_reply {c : CommandUnit} (h : c.coherent) :
    c.statusWord.toNat / 64 % 32 = c.replyLength ∧ c.statusWord.getLsbD 11 = c.lost ∧
      ∀ n, 12 ≤ n → c.statusWord.getLsbD n = false := by
  obtain ⟨-, -, hlength, -⟩ := h
  have hunit := unitCode_le c.unit
  have hresult := resultCode_le c.lastResult
  have hlost := flagBit_le c.lost 11
  have hflag : c.lost.toNat ≤ 1 := c.lost.toNat_le
  have hbound : c.statusNat < 2 ^ 12 := by
    rw [CommandUnit.statusNat]
    omega
  refine ⟨?_, ?_, fun n hn => ?_⟩
  · rw [CommandUnit.statusWord_eq, BitVec.toNat_ofNat, CommandUnit.statusNat, flagBit_eq_toNat_mul]
    omega
  · have hbit := getLsbD_flagBit (n := 11) (high := 0) (b := c.lost)
      (low := unitCode c.unit + resultCode c.lastResult * 4 + c.replyLength * 64) (by decide) (by omega)
    rwa [Nat.zero_mul, Nat.add_zero, ← CommandUnit.statusNat, ← CommandUnit.statusWord_eq] at hbit
  · rw [CommandUnit.statusWord_eq, BitVec.getLsbD_ofNat,
      Nat.testBit_lt_two_pow (Nat.lt_of_lt_of_le hbound (Nat.pow_le_pow_right (by decide) hn)), Bool.and_false]

/-- The number the part half of the status word holds. -/
def State.partNat (s : State) : Nat :=
  flagBit s.loader.defaulted 0 + flagBit (decide (s.frame.input = .present)) 1 + ownCode s.race.own * 4 +
    flagBit s.events.enable 5 + txCode s * 64

theorem State.partWord_eq (s : State) : s.partWord = BitVec.ofNat 16 s.partNat := by
  rw [State.partWord, OwnState.code_eq, State.txCode_eq]
  rfl

theorem State.partNat_lt (s : State) : s.partNat < 2 ^ 9 := by
  have hdefaulted := flagBit_le s.loader.defaulted 0
  have hpresent := flagBit_le (decide (s.frame.input = .present)) 1
  have henable := flagBit_le s.events.enable 5
  have hown := s.race.own.code_le
  rw [OwnState.code_eq] at hown
  have htx := s.txCode_le
  rw [State.partNat]
  omega

theorem State.part_codes (s : State) :
    s.partWord.toNat / 4 % 8 = ownCode s.race.own ∧ s.partWord.toNat / 64 % 8 = txCode s := by
  have hdefaulted := s.loader.defaulted.toNat_le
  have hpresent := (decide (s.frame.input = .present)).toNat_le
  have henable := s.events.enable.toNat_le
  have hown := s.race.own.code_le
  rw [OwnState.code_eq] at hown
  have htx := s.txCode_le
  rw [State.partWord_eq, BitVec.toNat_ofNat, State.partNat, flagBit_eq_toNat_mul, flagBit_eq_toNat_mul,
    flagBit_eq_toNat_mul]
  omega

theorem State.part_flags (s : State) :
    s.partWord.getLsbD 0 = s.loader.defaulted ∧ s.partWord.getLsbD 1 = decide (s.frame.input = .present) := by
  have hdefaulted := flagBit_le s.loader.defaulted 0
  have henable := flagBit_eq_toNat_mul s.events.enable 5
  constructor
  · have hsum : s.partNat = 0 + flagBit s.loader.defaulted 0 +
        ((decide (s.frame.input = .present)).toNat + ownCode s.race.own * 2 + s.events.enable.toNat * 16 +
          txCode s * 32) * 2 ^ (0 + 1) := by
      rw [State.partNat, henable, flagBit_eq_toNat_mul _ 1]
      omega
    rw [State.partWord_eq, hsum]
    exact getLsbD_flagBit (by decide) (by decide)
  · have hsum : s.partNat = flagBit s.loader.defaulted 0 + flagBit (decide (s.frame.input = .present)) 1 +
        (ownCode s.race.own + s.events.enable.toNat * 8 + txCode s * 16) * 2 ^ (1 + 1) := by
      rw [State.partNat, henable]
      omega
    rw [State.partWord_eq, hsum]
    exact getLsbD_flagBit (by decide) (by omega)

theorem State.getLsbD_partWord_above (s : State) {n : Nat} (hn : 9 ≤ n) : s.partWord.getLsbD n = false := by
  rw [State.partWord_eq, BitVec.getLsbD_ofNat,
    Nat.testBit_lt_two_pow (Nat.lt_of_lt_of_le s.partNat_lt (Nat.pow_le_pow_right (by decide) hn)), Bool.and_false]

/-! ## The words of the map (R162, R179) -/

/-- The address of a word of the map. -/
theorem toNat_address {n : Nat} (h : n < 512) : (BitVec.ofNat 9 n).toNat = n := by
  rw [BitVec.toNat_ofNat, Nat.mod_eq_of_lt h]

theorem State.portRead_argument (s : State) {i : Nat} (h : i < 16) :
    s.portRead (BitVec.ofNat 9 i) = s.cmd.arguments.getD i 0 := by
  rw [State.portRead, toNat_address (by omega)]
  exact if_pos h

theorem State.portRead_reply (s : State) {i : Nat} (h : i < 16) :
    s.portRead (BitVec.ofNat 9 (16 + i)) = s.cmd.reply.getD i 0 := by
  rw [State.portRead, toNat_address (by omega)]
  rw [if_neg (by omega), if_pos (by omega), Nat.add_sub_cancel_left]
  rfl

theorem State.portRead_unnamed (s : State) {n : Nat} (h : (0x02A ≤ n ∧ n < 0x100) ∨ (0x180 ≤ n ∧ n < 0x200)) :
    s.portRead (BitVec.ofNat 9 n) = 0 := by
  rw [State.portRead, toNat_address (by omega)]
  rw [if_neg (by omega), if_neg (by omega), if_neg (by omega), if_neg (by omega), if_neg (by omega), if_neg (by omega),
    if_neg (by omega), if_neg (by omega), if_neg (by omega)]

theorem State.portRead_window (s : State) {w : Nat} (h : w < 128) :
    s.portRead (BitVec.ofNat 9 (0x100 + w)) = s.windowWord w := by
  rw [State.portRead, toNat_address (by omega)]
  rw [if_neg (by omega), if_neg (by omega), if_neg (by omega), if_neg (by omega), if_neg (by omega), if_neg (by omega),
    if_neg (by omega), if_neg (by omega), if_pos (by omega), Nat.add_sub_cancel_left]

theorem EventKind.code_eq (k : EventKind) : k.code = eventCode k := by
  cases k <;> rfl

/-- The strap word holds the three straps apart. -/
theorem Straps.toNat_word (p : Straps) :
    p.word.toNat = p.station.val + 8 * p.rate.val + (if p.lowFirst then 32 else 0) := by
  have hstation := p.station.isLt
  have hrate := p.rate.isLt
  rw [Straps.word, BitVec.toNat_ofNat]
  split <;> omega

/-- The head of the Event Queue as the port shows it. -/
theorem State.portRead_head {s : State} {r : EventRecord} {rest : List EventRecord} (h : s.events.records = r :: rest) :
    s.portRead 0x024 = BitVec.ofNat 16 (eventCode r.kind + 256 * r.station.val) ∧ s.portRead 0x025 = r.detail ∧
      joinPair s.straps.lowFirst (s.portRead 0x026) (s.portRead 0x027) = r.stamp := by
  have hword : ∀ i, s.headWord i = wordAt (r.words s.straps.lowFirst) i := fun i => by rw [State.headWord, h]
  refine ⟨?_, hword 1, ?_⟩
  · rw [← EventKind.code_eq, Nat.mul_comm]
    exact hword 0
  · have hpair := joinPair_wordPair s.straps.lowFirst r.stamp 0
    rwa [← show wordAt (r.words s.straps.lowFirst) 2 = (wordPair s.straps.lowFirst r.stamp).getD 0 0 from rfl,
      ← show wordAt (r.words s.straps.lowFirst) 3 = (wordPair s.straps.lowFirst r.stamp).getD 1 0 from rfl, ← hword,
      ← hword] at hpair

/-- Settles O60: what each word of the map below the image window shows. -/
theorem portShowsStatusAndEvents : Obligations.PortShowsStatusAndEvents := by
  intro s
  obtain ⟨hunit, hresult⟩ := s.cmd.status_codes
  obtain ⟨hown, htx⟩ := s.part_codes
  obtain ⟨hdefaulted, hpresent⟩ := s.part_flags
  refine ⟨fun i hi => ⟨s.portRead_argument hi, s.portRead_reply hi⟩, fun n => s.portRead_unnamed, rfl, rfl, hunit,
    hresult, CommandUnit.status_reply, hdefaulted, hpresent, hown, s.getLsbD_partWord_enable, htx,
    fun n => s.getLsbD_partWord_above, s.portRead_enable, rfl, fun hempty => ?_, fun r rest => State.portRead_head,
    s.straps.toNat_word, s.interruptAsserted_iff⟩
  have hword : ∀ i, s.headWord i = 0 := fun i => by rw [State.headWord, hempty]
  exact ⟨hword 0, hword 1, hword 2, hword 3⟩

end Sys2Proof.Machine
end

section
/-! PROOFS. The image window, and the replies of READ_PEER and READ_RESULTS (R116, R146, R149, R176). -/

namespace Sys2Proof.Machine

open Sys2Proof.Claims

/-! ## The words of an image (R149) -/

/-- An element of equal pieces laid end to end. -/
theorem getD_flatMap_of_length {α β : Type} {f : α → List β} {k : Nat} (hlen : ∀ a, (f a).length = k) (d : β)
    {n : Nat} (hn : n < k) (l : List α) (p : Nat) (hp : p < l.length) :
    (l.flatMap f).getD (k * p + n) d = (f l[p]).getD n d := by
  induction l generalizing p with
  | nil => exact absurd hp (Nat.not_lt_zero p)
  | cons a l ih =>
    rw [List.flatMap_cons]
    cases p with
    | zero =>
      rw [Nat.mul_zero, Nat.zero_add]
      exact getD_append_of_lt _ _ (by rw [hlen a]; omega)
    | succ p =>
      have hindex : k * (p + 1) + n = (f a).length + (k * p + n) := by rw [hlen a, Nat.mul_add, Nat.mul_one]; omega
      rw [hindex, getD_append_of_le _ _ (Nat.le_add_right _ _), Nat.add_sub_cancel_left]
      exact ih p (by simpa using hp)

theorem StationRecord.length_words (r : StationRecord) (low : Bool) : (r.words low).length = 14 := by
  cases low <;> rfl

theorem Image.length_headerWords (i : Image) (low : Bool) : (i.headerWords low).length = 16 := by
  cases low <;> rfl

/-- The fourteen words of a station record stand at 14 times its station, after the header. -/
theorem Image.wordAt_record (i : Image) (low : Bool) (p : Station) {n : Nat} (hn : n < 14) :
    wordAt (i.words low) (16 + (14 * p.val + n)) = wordAt ((i.records.get p).words low) n := by
  have hstation : stations[p.val]'p.isLt = p := by
    match p with
    | 0 | 1 | 2 | 3 | 4 | 5 | 6 | 7 => rfl
  have hpieces := getD_flatMap_of_length (f := fun p => (i.records.get p).words low)
    (fun p => StationRecord.length_words _ _) 0 hn stations p.val p.isLt
  have hlen := i.length_headerWords low
  rw [wordAt, Image.words, getD_append_of_le _ _ (by omega), hlen, Nat.add_sub_cancel_left, hpieces, hstation]
  rfl

/-- The window with a bank OPEN. -/
theorem State.windowWord_of_opened {s : State} {i : Image} (h : s.image.opened = some i) (w : Nat) :
    s.windowWord w = wordAt (i.words s.straps.lowFirst) w := by
  rw [State.windowWord, h]

theorem State.portRead_opened {s : State} {i : Image} (h : s.image.opened = some i) {w : Nat} (hw : w < 128) :
    s.portRead (BitVec.ofNat 9 (0x100 + w)) = wordAt (i.words s.straps.lowFirst) w := by
  rw [s.portRead_window hw, State.windowWord_of_opened h]

theorem State.portRead_record {s : State} {i : Image} (h : s.image.opened = some i) (p : Station) {n : Nat}
    (hn : n < 14) :
    s.portRead (BitVec.ofNat 9 (0x110 + 14 * p.val + n)) = wordAt ((i.records.get p).words s.straps.lowFirst) n := by
  have hp := p.isLt
  have hindex : 0x110 + 14 * p.val + n = 0x100 + (16 + (14 * p.val + n)) := by omega
  rw [hindex, State.portRead_opened h (by omega), Image.wordAt_record i _ p hn]

/-! ### The header -/

theorem Image.wordAt_header (i : Image) (low : Bool) :
    wordAt (i.words low) 0 = i.sequence ∧
      joinPair low (wordAt (i.words low) 1) (wordAt (i.words low) 2) = i.capture ∧
      joinPair low (wordAt (i.words low) 3) (wordAt (i.words low) 4) = i.period ∧
      wordAt (i.words low) 5 = word i.own.code ∧
      joinPair low (wordAt (i.words low) 6) (wordAt (i.words low) 7) = i.raceTime ∧
      wordAt (i.words low) 8 = i.timeToGreen ∧ wordAt (i.words low) 9 = twoBytes i.mask.toNat i.present.toNat ∧
      wordAt (i.words low) 14 = word i.ranking.length ∧ wordAt (i.words low) 15 = 1 := by
  have hcapture := joinPair_wordPair low i.capture 0
  have hperiod := joinPair_wordPair low i.period 0
  have hrace := joinPair_wordPair low i.raceTime 0
  cases low <;> exact ⟨rfl, hcapture, hperiod, rfl, hrace, rfl, rfl, rfl, rfl⟩

theorem Image.rankByte_eq (i : Image) (k : Nat) : i.rankByte k = rankShown i k := by
  unfold Image.rankByte rankShown
  cases i.ranking[k]? <;> rfl

theorem Image.wordAt_ranking (i : Image) (low : Bool) {k : Nat} (hk : k < 4) :
    wordAt (i.words low) (10 + k) = BitVec.ofNat 16 (rankShown i (2 * k) + 256 * rankShown i (2 * k + 1)) := by
  have hword : wordAt (i.words low) (10 + k) = twoBytes (i.rankByte (2 * k)) (i.rankByte (2 * k + 1)) := by
    match k with
    | 0 | 1 | 2 | 3 => cases low <;> rfl
  rw [hword, twoBytes, Image.rankByte_eq, Image.rankByte_eq, Nat.mul_comm 256]

/-- Two bytes in a word, the second above the first. -/
theorem twoBytes_eq_append (a b : Byte) : twoBytes a.toNat b.toNat = b ++ a := by
  apply BitVec.eq_of_toNat_eq
  have ha := a.isLt
  have hb := b.isLt
  rw [twoBytes, BitVec.toNat_ofNat, BitVec.toNat_append, ← Nat.shiftLeft_add_eq_or_of_lt ha, Nat.shiftLeft_eq]
  omega

/-! ### A station record -/

theorem StationRecord.flags_eq (r : StationRecord) :
    r.flags = BitVec.ofNat 16 (flagsNat [r.own, r.stale, r.snapped, r.held, r.noPosition, r.finishValid]) := by
  have hflag : ∀ (b : Bool) (n : Nat), (if b then n else 0) = b.toNat * n := fun b n => by cases b <;> simp
  simp only [StationRecord.flags, hflag, flagsNat]
  congr 1
  omega

/-- The flags of a station record, bit by bit. -/
theorem StationRecord.getLsbD_flags (r : StationRecord) :
    r.flags.getLsbD 0 = r.own ∧ r.flags.getLsbD 1 = r.stale ∧ r.flags.getLsbD 2 = r.snapped ∧
      r.flags.getLsbD 3 = r.held ∧ r.flags.getLsbD 4 = r.noPosition ∧ r.flags.getLsbD 5 = r.finishValid ∧
      ∀ n, 6 ≤ n → r.flags.getLsbD n = false := by
  rw [StationRecord.flags_eq]
  refine ⟨?_, ?_, ?_, ?_, ?_, ?_, fun n hn => getLsbD_flagsNat_above (by simp) (by simpa using hn)⟩
  all_goals exact getLsbD_flagsNat (by simp) _

theorem StationRecord.wordAt_words (r : StationRecord) (low : Bool) :
    wordAt (r.words low) 0 = twoBytes r.state r.quality ∧ wordAt (r.words low) 1 = r.flags ∧
      joinPair low (wordAt (r.words low) 2) (wordAt (r.words low) 3) = r.x.signExtend 32 ∧
      joinPair low (wordAt (r.words low) 4) (wordAt (r.words low) 5) = r.y.signExtend 32 ∧
      joinPair low (wordAt (r.words low) 6) (wordAt (r.words low) 7) = r.z.signExtend 32 ∧
      wordAt (r.words low) 8 = r.h ∧ joinPair low (wordAt (r.words low) 9) (wordAt (r.words low) 10) = r.g ∧
      wordAt (r.words low) 11 = twoBytes r.laps.toNat r.rank ∧
      joinPair low (wordAt (r.words low) 12) (wordAt (r.words low) 13) = r.finish := by
  have hx := joinPair_wordPair low (r.x.signExtend 32) 0
  have hy := joinPair_wordPair low (r.y.signExtend 32) 0
  have hz := joinPair_wordPair low (r.z.signExtend 32) 0
  have hg := joinPair_wordPair low r.g 0
  have hfinish := joinPair_wordPair low r.finish 0
  cases low <;> exact ⟨rfl, rfl, hx, hy, hz, rfl, hg, rfl, hfinish⟩

/-- A position of a record as a 32-bit quantity has the value it has as a 24-bit one. -/
theorem toInt_signExtend_position (x : BitVec 24) : (x.signExtend 32).toInt = x.toInt :=
  BitVec.toInt_signExtend_of_le (by decide)

/-- Settles O19: every word of the image window, header and records. -/
theorem imageWindowLayout : Obligations.ImageWindowLayout := by
  refine ⟨fun s w hw hnone => ?_, fun s i hopen => ?_⟩
  · rw [s.portRead_window hw, State.windowWord, hnone]
  have hread : ∀ w, w < 128 → s.portRead (BitVec.ofNat 9 (0x100 + w)) = wordAt (i.words s.straps.lowFirst) w :=
    fun w hw => State.portRead_opened hopen hw
  obtain ⟨hseq, hcapture, hperiod, hown, hrace, hgreen, hmask, hcount, hvalid⟩ := i.wordAt_header s.straps.lowFirst
  rw [← hread _ (by decide), ← hread _ (by decide)] at hcapture hperiod hrace
  rw [← hread _ (by decide)] at hseq hown hgreen hmask hcount hvalid
  refine ⟨hseq, hcapture, hperiod, hown.trans (by rw [OwnState.code_eq]), hrace, hgreen,
    hmask.trans (twoBytes_eq_append _ _), fun k hk => ?_, hcount, hvalid, fun p r w hr hw => ?_⟩
  · rw [← Image.wordAt_ranking i s.straps.lowFirst hk, ← hread _ (by omega), ← Nat.add_assoc]
  · have hrecord : ∀ n, n < 14 → w n = wordAt (r.words s.straps.lowFirst) n := fun n hn => by
      rw [hw, hr, State.portRead_record hopen p hn]
    obtain ⟨hstate, hflags, hx, hy, hz, hheading, hg, hlaps, hfinish⟩ := r.wordAt_words s.straps.lowFirst
    rw [← hrecord _ (by decide), ← hrecord _ (by decide)] at hx hy hz hg hfinish
    rw [← hrecord _ (by decide)] at hstate hflags hheading hlaps
    obtain ⟨h0, h1, h2, h3, h4, h5, habove⟩ := r.getLsbD_flags
    rw [hflags, hx, hy, hz, toInt_signExtend_position, toInt_signExtend_position, toInt_signExtend_position, hstate,
      hlaps, twoBytes, twoBytes, Nat.mul_comm 256, Nat.mul_comm 256]
    exact ⟨rfl, ⟨h0, h1, h2, h3, h4, h5, habove⟩, rfl, rfl, rfl, hheading, hg, rfl, hfinish⟩

/-! ## READ_PEER (R176) -/

theorem EntryState.code_eq (e : EntryState) : e.code = peerCode e := by
  cases e <;> rfl

theorem State.marks_eq (s : State) (p : Station) :
    s.marks p = BitVec.ofNat 16 (flagsNat [(lobbyShown s p).isSome, (s.entry p).lastHeard.isSome, (s.entry p).car.isSome,
      (s.entry p).finish.isSome, (s.entry p).raceFlag, (s.entry p).dnf, (s.entry p).resend, decide (p = s.own)]) := by
  have hlobby : s.lobbyOf p = lobbyShown s p := rfl
  simp only [State.marks, flagBit_eq_toNat_mul, flagsNat, hlobby]
  congr 1
  omega

/-- The marks of an entry, bit by bit. -/
theorem State.getLsbD_marks (s : State) (p : Station) :
    (s.marks p).getLsbD 0 = (lobbyShown s p).isSome ∧ (s.marks p).getLsbD 1 = (s.entry p).lastHeard.isSome ∧
      (s.marks p).getLsbD 2 = (s.entry p).car.isSome ∧ (s.marks p).getLsbD 3 = (s.entry p).finish.isSome ∧
      (s.marks p).getLsbD 4 = (s.entry p).raceFlag ∧ (s.marks p).getLsbD 5 = (s.entry p).dnf ∧
      (s.marks p).getLsbD 6 = (s.entry p).resend ∧ (s.marks p).getLsbD 7 = decide (p = s.own) ∧
      ∀ n, 8 ≤ n → (s.marks p).getLsbD n = false := by
  rw [State.marks_eq]
  refine ⟨?_, ?_, ?_, ?_, ?_, ?_, ?_, ?_, fun n hn => getLsbD_flagsNat_above (by simp) (by simpa using hn)⟩
  all_goals exact getLsbD_flagsNat (by simp) _

/-- READ_PEER of a station. -/
theorem exec_readPeer {s : State} (hstands : s.currentStands = true) (hidle : s.cmd.unit = .idle) {p : Station}
    (hp : (argument s 0).toNat = p.val) : exec .readPeer s = .next { s with cmd := taken s .ok (s.peerWords p) } := by
  refine done_take_answer hstands hidle ?_
  obtain ⟨n, hn⟩ := p
  obtain rfl : (argument s 0).toNat = n := hp
  exact dif_pos hn

/-- READ_PEER of a number that names no station. -/
theorem exec_readPeer_none {s : State} (hstands : s.currentStands = true) (hidle : s.cmd.unit = .idle)
    (hp : 7 < (argument s 0).toNat) : exec .readPeer s = .next { s with cmd := taken s .badArgument [] } :=
  done_take_answer hstands hidle (dif_neg (by rw [State.arg_began]; omega))

/-! ## READ_RESULTS (R116) -/

theorem Category.code_eq (c : Category) : c.code = categoryCode c := by
  cases c <;> rfl

theorem ResultRecord.presence_eq (r : ResultRecord) :
    r.presence = BitVec.ofNat 16 (flagsNat [r.finish.isSome, r.progress.isSome, r.bestLap.isSome]) := by
  simp only [ResultRecord.presence, flagBit_eq_toNat_mul, flagsNat]
  congr 1
  omega

theorem ResultRecord.getLsbD_presence (r : ResultRecord) :
    r.presence.getLsbD 0 = r.finish.isSome ∧ r.presence.getLsbD 1 = r.progress.isSome ∧
      r.presence.getLsbD 2 = r.bestLap.isSome ∧ ∀ n, 3 ≤ n → r.presence.getLsbD n = false := by
  rw [ResultRecord.presence_eq]
  refine ⟨?_, ?_, ?_, fun n hn => getLsbD_flagsNat_above (by simp) (by simpa using hn)⟩
  all_goals exact getLsbD_flagsNat (by simp) _

/-- READ_RESULTS before the own finish. -/
theorem exec_readResults_wrongState {s : State} (hstands : s.currentStands = true) (hidle : s.cmd.unit = .idle)
    (hfinished : s.race.own ≠ .finished) (hresults : s.race.own ≠ .results) :
    exec .readResults s = .next { s with cmd := taken s .wrongState [] } :=
  done_take_answer hstands hidle (if_pos ⟨hfinished, hresults⟩)

/-- READ_RESULTS in FINISHED or RESULTS, by the list it reads. -/
theorem State.readResults_shown {s : State} {l : List ResultRecord} (hown : s.race.own = .results ∨ s.race.own = .finished)
    (hl : s.resultsShown = l) :
    s.readResults = if s.arg 0 = 0 then s.refuse .badArgument
      else match l[(s.arg 0).toNat - 1]? with
        | none => s.refuse .badArgument
        | some r => ⟨s, .ok, resultsReply s.straps.lowFirst (decide (s.race.own = .results)) l (s.arg 0).toNat r⟩ := by
  subst hl
  refine if_neg ?_
  rcases hown with h | h <;> simp [h]

/-- The list READ_RESULTS reads (R116). -/
theorem State.resultsShown_eq {s : State} {l : List ResultRecord}
    (h : (s.race.own = .results ∧ s.race.results = some l) ∨ (s.race.own = .finished ∧ l = s.resultsFor none)) :
    s.resultsShown = l := by
  rcases h with ⟨hown, hl⟩ | ⟨hown, hl⟩
  · rw [State.resultsShown, if_pos hown, hl, Option.getD_some]
  · rw [State.resultsShown, if_neg (by rw [hown]; exact nofun), hl]

/-- The thirteen words of a results record. -/
theorem resultsReply_words (low final : Bool) (l : List ResultRecord) (rank : Nat) (r : ResultRecord) :
    let w := resultsReply low final l rank r
    w.getD 0 0 = BitVec.ofNat 16 l.length ∧ w.getD 1 0 = (if final then 1 else 0) ∧ w.getD 2 0 = word rank ∧
      w.getD 3 0 = BitVec.ofNat 16 r.station.val ∧ w.getD 4 0 = BitVec.ofNat 16 (categoryCode r.category) ∧
      w.getD 5 0 = r.presence ∧ joinPair low (w.getD 6 0) (w.getD 7 0) = r.finish.getD 0 ∧
      joinPair low (w.getD 8 0) (w.getD 9 0) = r.progress.getD 0 ∧ w.getD 10 0 = r.laps.setWidth 16 ∧
      joinPair low (w.getD 11 0) (w.getD 12 0) = r.bestLap.getD 0 := by
  have hfinish := joinPair_wordPair low (r.finish.getD 0) 0
  have hprogress := joinPair_wordPair low (r.progress.getD 0) 0
  have hbest := joinPair_wordPair low (r.bestLap.getD 0) 0
  rw [← Category.code_eq]
  cases low <;> exact ⟨rfl, rfl, rfl, rfl, rfl, rfl, hfinish, hprogress, rfl, hbest⟩

/-- Settles O56: the replies of READ_PEER and READ_RESULTS, word by word. -/
theorem readResultsAndPeerReplies : Obligations.ReadResultsAndPeerReplies := by
  refine ⟨fun e => by cases e <;> decide, fun o => by cases o <;> decide, fun s hstands hidle =>
    ⟨exec_readPeer_none hstands hidle, fun p hp => ?_, exec_readResults_wrongState hstands hidle, fun l hl => ?_⟩⟩
  · have hheard := joinPair_wordPair s.straps.lowFirst ((s.entry p).lastHeard.getD 0) 0
    refine ⟨_, exec_readPeer hstands hidle hp, s.length_peerWords p, ?_, s.getLsbD_marks p, rfl, rfl, rfl, ?_⟩
    · rw [← OwnState.code_eq, ← EntryState.code_eq]
      rfl
    · cases hlow : s.straps.lowFirst
      all_goals
        rw [hlow] at hheard
        rw [State.peerWords, hlow]
        exact hheard
  · have hown : s.race.own = .results ∨ s.race.own = .finished := hl.imp And.left And.left
    have hshown : s.began.resultsShown = l := State.resultsShown_eq (s := s) hl
    refine ⟨fun hrank => done_take_answer hstands hidle ?_, fun r hrank hr =>
      ⟨resultsReply s.straps.lowFirst (decide (s.race.own = .results)) l (argument s 0).toNat r,
        done_take_answer hstands hidle ?_, length_resultsReply .., ?_⟩⟩
    · rw [State.readResults_shown (s := s.began) hown hshown]
      rcases hrank with hrank | hrank
      · exact if_pos hrank
      · rw [State.arg_began, if_neg (by rintro h; rw [h] at hrank; exact absurd hrank (by simp)),
          List.getElem?_eq_none (by omega)]
        rfl
    · rw [State.readResults_shown (s := s.began) hown hshown, State.arg_began, if_neg hrank, hr]
      rfl
    · obtain ⟨hcount, hfinal, hplace, hstation, hcategory, hpresence, hrest⟩ := resultsReply_words s.straps.lowFirst
        (decide (s.race.own = .results)) l (argument s 0).toNat r
      refine ⟨hcount, hfinal.trans (by simp), hplace.trans (by simp [word]), hstation, hcategory, ?_, hrest⟩
      rw [hpresence]
      exact r.getLsbD_presence

end Sys2Proof.Machine
end

section
/-! PROOFS. CONFIGURE and READ_CONFIG (R178, R189, R191). -/

namespace Sys2Proof.Machine

open Sys2Proof.Claims

/-! ## The words that were limited (R191) -/

/-- Bit n of the reply tells whether word n was limited. -/
theorem getLsbD_limitedWord (f : Nat → Bool) (n : Nat) :
    (limitedWord f).getLsbD n = true ↔ n < 13 ∧ f n = true := by
  by_cases hn : n < 16
  · refine (Bool.eq_iff_iff.mp (getLsbD_foldl_setBit f id hn (List.range 13) 0)).trans ?_
    have hzero : (0 : Word).getLsbD n = false := BitVec.getLsbD_zero
    rw [hzero, Bool.false_or, List.any_eq_true]
    refine ⟨fun ⟨k, hk, htest⟩ => ?_, fun ⟨hlow, hf⟩ =>
      ⟨n, List.mem_range.mpr hlow, Bool.and_eq_true_iff.mpr ⟨hf, decide_eq_true rfl⟩⟩⟩
    obtain ⟨hf, heq⟩ := Bool.and_eq_true_iff.mp htest
    obtain rfl : k = n := of_decide_eq_true heq
    exact ⟨List.mem_range.mp hk, hf⟩
  · rw [BitVec.getLsbD_of_ge _ _ (by omega)]
    simp
    omega

/-- A word of group 0 has a range when the table of the manual lists one. -/
theorem groupZeroRange_eq_some {n lo hi : Nat} : groupZeroRange n = some (lo, hi) ↔ (n, lo, hi) ∈ groupZeroLimits := by
  unfold groupZeroRange
  split
  all_goals simp [groupZeroLimits]
  all_goals grind

/-- A range of the manual's table is not empty, and belongs to one of the first thirteen words. -/
theorem groupZeroLimits_range {n lo hi : Nat} (h : (n, lo, hi) ∈ groupZeroLimits) : lo ≤ hi ∧ n < 13 := by
  simp only [groupZeroLimits, List.mem_cons, Prod.mk.injEq, List.not_mem_nil, or_false] at h
  omega

theorem clampTo_eq_limited {lo hi : Nat} (h : lo ≤ hi) (w : Word) : clampTo lo hi w.toNat = limited lo hi w :=
  clampTo_eq h _

/-- Word n of group 0 is limited when it has a range and lies outside it. -/
theorem groupZeroLimited_iff (b : List Word) (n : Nat) :
    n < 13 ∧ groupZeroLimited b n = true ↔
      ∃ lo hi, (n, lo, hi) ∈ groupZeroLimits ∧ limited lo hi (wordAt b n) ≠ (wordAt b n).toNat := by
  unfold groupZeroLimited
  rw [decide_eq_true_eq]
  constructor
  · rintro ⟨-, hlimited⟩
    cases hrange : groupZeroRange n with
    | none =>
      rw [hrange] at hlimited
      exact absurd rfl hlimited
    | some range =>
      obtain ⟨lo, hi⟩ := range
      have hmem := groupZeroRange_eq_some.mp hrange
      rw [hrange] at hlimited
      refine ⟨lo, hi, hmem, ?_⟩
      rwa [← clampTo_eq_limited (groupZeroLimits_range hmem).1]
  · rintro ⟨lo, hi, hmem, hlimited⟩
    obtain ⟨hle, hn⟩ := groupZeroLimits_range hmem
    refine ⟨hn, ?_⟩
    rw [groupZeroRange_eq_some.mpr hmem]
    exact fun h => hlimited ((clampTo_eq_limited hle _).symm.trans h)

theorem pinFieldLimited_iff (w : Word) : pinFieldLimited w = true ↔ ∃ k : Pin, pinCode w.toNat k = 3 := by
  have hall : ∀ k : Pin, k ∈ pins := by decide
  simp only [pinFieldLimited, List.any_eq_true, decide_eq_true_eq]
  exact ⟨fun ⟨k, _, h⟩ => ⟨k, h⟩, fun ⟨k, h⟩ => ⟨k, hall k, h⟩⟩

/-- A value with a lower limit of 0 is limited when it is above the upper one. -/
theorem clampTo_zero_ne {hi v : Nat} : clampTo 0 hi v ≠ v ↔ hi < v := by
  rw [clampTo_eq (Nat.zero_le hi)]
  omega

/-- Word n of group 1 is limited when its number is above its range or a pin field of it holds 3. -/
theorem groupOneLimited_iff (b : List Word) (n : Nat) :
    n < 13 ∧ groupOneLimited b n = true ↔
      ((n = 0 ∨ n = 2 ∨ n = 4 ∨ n = 6) ∧ 10000 < (wordAt b n).toNat) ∨ (n = 8 ∧ 5000 < (wordAt b n).toNat) ∨
        ((n = 9 ∨ n = 10) ∧ ∃ k : Pin, pinCode (wordAt b n).toNat k = 3) := by
  rw [groupOneLimited, Bool.or_eq_true, decide_eq_true_eq, Bool.and_eq_true, Bool.or_eq_true, decide_eq_true_eq,
    decide_eq_true_eq, pinFieldLimited_iff]
  unfold groupOneRange
  split
  all_goals simp [limitWord, clampTo_zero_ne]
  grind

/-! ## CONFIGURE (R150, R191) -/

/-- The part after settings are put in force, before its unit is BUSY. -/
def State.configured (s : State) (t : Settings) : State := (s.began.putSettings t 0).state

/-- CONFIGURE that takes settings. -/
theorem exec_configure {s : State} {t : Settings} {m : Word} (hstands : s.currentStands = true)
    (hidle : s.cmd.unit = .idle) (h : s.began.configure = s.began.putSettings t m) :
    exec .configure s = .next ((s.configured t).setCmd (taken s (if m = 0 then .ok else .clamped) [m])) :=
  done_take hstands hidle h rfl rfl rfl

/-- Only a pin that stays PLAIN keeps its level (R150). -/
theorem get_keptLevels (old new : Four PinFunction) (levels : Four Bool) (p : Pin) :
    (keptLevels old new levels).get p =
      (levels.get p && decide (old.get p = .plain) && decide (new.get p = .plain)) := by
  rw [keptLevels, Four.get_ofFn, Bool.and_comm, Bool.and_assoc]

/-- What CONFIGURE writes when it takes settings, whichever group they are of. -/
theorem configure_writes {s : State} {T : Settings} {m : Word} (hstands : s.currentStands = true)
    (hidle : s.cmd.unit = .idle) (h : s.began.configure = s.began.putSettings T m) :
    ∃ t r, exec .configure s = .next t ∧ t = { s with loader := t.loader, lamp := t.lamp, cmd := taken s r [m] } ∧
      t.settings = T ∧ t.loader = { s.loader with settings := t.settings } ∧
      t.lamp = { s.lamp with plain := t.lamp.plain } ∧ (r = .ok ↔ m = 0) ∧ (r = .ok ∨ r = .clamped) ∧
      ∀ p, t.lamp.plain.get p = (s.lamp.plain.get p && decide (s.settings.functions.get p = .plain) &&
        decide (t.settings.functions.get p = .plain)) := by
  refine ⟨_, _, exec_configure hstands hidle h, rfl, rfl, rfl, rfl, ?_, ?_, get_keptLevels _ _ _⟩
  · split
    case isTrue hm => exact iff_of_true rfl hm
    case isFalse hm => exact iff_of_false nofun hm
  · split
    case isTrue => exact .inl rfl
    case isFalse => exact .inr rfl

theorem State.configure_wrongState {s : State} (h : s.race.own ≠ .offline) : s.configure = s.refuse .wrongState :=
  if_pos h

/-- CONFIGURE in OFFLINE, by the group its argument names. -/
theorem State.configure_offline {s : State} (h : s.race.own = .offline) :
    s.configure =
      if s.arg 13 = 0 then
        s.putSettings (s.settings.takeGroupZero s.straps.lowFirst s.cmd.copied)
          (limitedWord (groupZeroLimited s.cmd.copied))
      else if s.arg 13 = 1 then
        s.putSettings (s.settings.takeGroupOne s.cmd.copied) (limitedWord (groupOneLimited s.cmd.copied))
      else s.refuse .badArgument :=
  if_neg (Classical.not_not.mpr h)

/-- The settings of group 0 as the manual lists its words. -/
theorem Settings.takeGroupZero_eq (t : Settings) (low : Bool) (b : List Word) :
    t.takeGroupZero low b = { t with
      horizon := limited 16 250 (wordAt b 0), lostTimeout := limited 100 2000 (wordAt b 1)
      th0 := limited 1 65535 (wordAt b 2), th1 := limited 1 65535 (wordAt b 3)
      surfaceMap := (wordAt b 4).extractLsb' 0 4
      headingThreshold := limited 1 32768 (wordAt b 5), blendShift := limited 1 6 (wordAt b 6)
      reportSpacing := limited 4 50 (wordAt b 7), lobbyWindow := limited 5 60 (wordAt b 8)
      minField := limited 1 8 (wordAt b 9), startLead := limited 3000 10000 (wordAt b 10)
      raceLimit := limited 60 1800 (wordAt b 11), finishGrace := limited 5 60 (wordAt b 12)
      eventMask := (pairAt low b 14).extractLsb' 0 24 } := by
  have hclamp : ∀ (lo hi : Nat) (w : Word), lo ≤ hi → limited lo hi w = clampTo lo hi w.toNat := fun lo hi w h =>
    (clampTo_eq_limited h w).symm
  simp only [hclamp _ _ _ (by decide : 16 ≤ 250), hclamp _ _ _ (by decide : 100 ≤ 2000),
    hclamp _ _ _ (by decide : 1 ≤ 65535), hclamp _ _ _ (by decide : 1 ≤ 32768), hclamp _ _ _ (by decide : 1 ≤ 6),
    hclamp _ _ _ (by decide : 4 ≤ 50), hclamp _ _ _ (by decide : 5 ≤ 60), hclamp _ _ _ (by decide : 1 ≤ 8),
    hclamp _ _ _ (by decide : 3000 ≤ 10000), hclamp _ _ _ (by decide : 60 ≤ 1800)]
  rfl

theorem Settings.takeGroupOne_fields (t : Settings) (b : List Word) :
    (t.takeGroupOne b = { t with
      lampSteps := (t.takeGroupOne b).lampSteps, greenHold := limited 0 5000 (wordAt b 8)
      failSafe := (t.takeGroupOne b).failSafe, functions := (t.takeGroupOne b).functions }) ∧
    ∀ k : Pin, ((t.takeGroupOne b).lampSteps.get k).offset = limited 0 10000 (wordAt b (2 * k.val)) ∧
      ((t.takeGroupOne b).lampSteps.get k).pattern = (wordAt b (2 * k.val + 1)).extractLsb' 0 4 ∧
      failSafeFrom (pinCode (wordAt b 9).toNat k) ((t.takeGroupOne b).failSafe.get k) ∧
      functionFrom (pinCode (wordAt b 10).toNat k) ((t.takeGroupOne b).functions.get k) := by
  constructor
  · rw [← clampTo_eq_limited (by decide : 0 ≤ 5000)]
    rfl
  · intro k
    rw [← clampTo_eq_limited (by decide : 0 ≤ 10000)]
    have hfail := failSafeFrom_pinField (wordAt b 9) k
    have hfunction := functionFrom_pinField (wordAt b 10) k
    rw [Settings.takeGroupOne, Four.get_ofFn, Four.get_ofFn, Four.get_ofFn]
    refine ⟨?_, rfl, hfail, hfunction⟩
    match k with
    | 0 | 1 | 2 | 3 => rfl

/-! ## READ_CONFIG (R178) -/

theorem wordPair_eq (low : Bool) (x : BitVec 32) : wordPair low x = [(wordPair low x).getD 0 0, (wordPair low x).getD 1 0] := by
  cases low <;> rfl

/-- Four two-bit fields in a word are below 256 and read back each. -/
theorem pinCode_packPins {f : Pin → Nat} (hf : ∀ p, f p ≤ 2) :
    (packPins f).toNat < 256 ∧ ∀ k, pinCode (packPins f).toNat k = f k := by
  have h0 := hf 0
  have h1 := hf 1
  have h2 := hf 2
  have h3 := hf 3
  have hsum : (packPins f).toNat = f 0 + f 1 * 4 + f 2 * 16 + f 3 * 64 := by
    rw [packPins, BitVec.toNat_ofNat]
    omega
  refine ⟨by omega, fun k => ?_⟩
  unfold pinCode
  match k with
  | 0 => show (packPins f).toNat / 1 % 4 = f 0; omega
  | 1 => show (packPins f).toNat / 4 % 4 = f 1; omega
  | 2 => show (packPins f).toNat / 16 % 4 = f 2; omega
  | 3 => show (packPins f).toNat / 64 % 4 = f 3; omega

theorem failSafeFrom_code (v : FailSafe) : failSafeFrom v.code v ∧ v.code ≤ 2 := by
  cases v <;> simp [failSafeFrom, FailSafe.code]

theorem functionFrom_code (v : PinFunction) : functionFrom v.code v ∧ v.code ≤ 2 := by
  cases v <;> simp [functionFrom, PinFunction.code]

theorem exec_readConfig_zero {s : State} (hstands : s.currentStands = true) (hidle : s.cmd.unit = .idle)
    (h : argument s 0 = 0) : exec .readConfig s = .next { s with cmd := taken s .ok (s.settings.groupZero s.straps) } :=
  done_take_answer hstands hidle (if_pos h)

theorem exec_readConfig_one {s : State} (hstands : s.currentStands = true) (hidle : s.cmd.unit = .idle)
    (h : argument s 0 = 1) :
    exec .readConfig s = .next { s with cmd := taken s .ok (s.settings.groupOne s.loader.defaulted) } := by
  refine done_take_answer hstands hidle ?_
  have hnot : s.began.arg 0 ≠ 0 := by rw [State.arg_began, h]; decide
  exact (if_neg hnot).trans (if_pos h)

theorem exec_readConfig_badArgument {s : State} (hstands : s.currentStands = true) (hidle : s.cmd.unit = .idle)
    (h : 1 < (argument s 0).toNat) : exec .readConfig s = .next { s with cmd := taken s .badArgument [] } := by
  refine done_take_answer hstands hidle ?_
  have hzero : s.began.arg 0 ≠ 0 := by rw [State.arg_began]; bv_omega
  have hone : s.began.arg 0 ≠ 1 := by rw [State.arg_began]; bv_omega
  exact (if_neg hzero).trans (if_neg hone)

/-- Settles O49: CONFIGURE's refusals and what it takes, group by group, and the two groups read back. -/
theorem configureAndReadConfig : Obligations.ConfigureAndReadConfig := by
  refine fun s hstands hidle => ⟨fun hown => ?_, fun hown hgroup => ?_, fun hown hgroup => ?_,
    exec_readConfig_badArgument hstands hidle, fun hgroup => ?_, fun hgroup => ?_⟩
  · exact done_take_answer hstands hidle (State.configure_wrongState (s := s.began) hown)
  · refine done_take_answer hstands hidle ?_
    rw [State.configure_offline (s := s.began) hown, State.arg_began, if_neg (by bv_omega), if_neg (by bv_omega)]
    rfl
  · have hgroups : argument s 13 = 0 ∨ argument s 13 = 1 := by bv_omega
    have hconfigure := State.configure_offline (s := s.began) hown
    rw [State.arg_began] at hconfigure
    rcases hgroups with hzero | hone
    · rw [if_pos hzero] at hconfigure
      obtain ⟨t, r, hexec, ht, hsettings, hwrites⟩ := configure_writes hstands hidle hconfigure
      obtain ⟨hloader, hlamp, hok, hresult, hplain⟩ := hwrites
      refine ⟨t, _, r, hexec, ht, hloader, hlamp, hok, hresult, hplain, fun _ => ⟨?_, fun n => ?_⟩, fun hone => ?_⟩
      · exact hsettings.trans (Settings.takeGroupZero_eq _ _ _)
      · exact (getLsbD_limitedWord _ n).trans (groupZeroLimited_iff _ n)
      · rw [hzero] at hone
        exact absurd hone (by decide)
    · have hnot : argument s 13 ≠ 0 := by rw [hone]; decide
      rw [if_neg hnot, if_pos hone] at hconfigure
      obtain ⟨t, r, hexec, ht, hsettings, hwrites⟩ := configure_writes hstands hidle hconfigure
      obtain ⟨hloader, hlamp, hok, hresult, hplain⟩ := hwrites
      obtain ⟨hgroupOne, hfields⟩ := s.settings.takeGroupOne_fields s.cmd.arguments
      refine ⟨t, _, r, hexec, ht, hloader, hlamp, hok, hresult, hplain, fun hzero => absurd hzero hnot,
        fun _ => ⟨?_, ?_, fun n => ?_⟩⟩
      · rw [hsettings]
        exact hgroupOne
      · rw [hsettings]
        exact hfields
      · exact (getLsbD_limitedWord _ n).trans (groupOneLimited_iff _ n)
  · refine ⟨(wordPair s.straps.lowFirst (s.settings.eventMask.setWidth 32)).getD 0 0,
      (wordPair s.straps.lowFirst (s.settings.eventMask.setWidth 32)).getD 1 0, ?_, joinPair_wordPair _ _ _⟩
    rw [exec_readConfig_zero hstands hidle hgroup, Settings.groupZero, wordPair_eq]
    rfl
  · have hfail := pinCode_packPins fun p => (failSafeFrom_code (s.settings.failSafe.get p)).2
    have hfunction := pinCode_packPins fun p => (functionFrom_code (s.settings.functions.get p)).2
    refine ⟨_, _, exec_readConfig_one hstands hidle hgroup, hfail.1, hfunction.1, fun k => ?_⟩
    obtain ⟨hfrom, hle⟩ := failSafeFrom_code (s.settings.failSafe.get k)
    obtain ⟨hfrom', hle'⟩ := functionFrom_code (s.settings.functions.get k)
    rw [hfail.2 k, hfunction.2 k]
    exact ⟨by omega, hfrom, by omega, hfrom'⟩

end Sys2Proof.Machine
end

section
/-! PROOFS. Ranking: the results list and the live rank of an image (R111 to R114, R140, R143). -/

namespace Sys2Proof.Machine

open Sys2Proof.Claims

/-! ## Insertion by a transitive test -/

/-- The insertion that the two rankings share: an element goes before the first that it precedes. -/
def insertBy {α : Type} (before : α → α → Bool) (a : α) : List α → List α
  | [] => [a]
  | x :: rest => if before a x then a :: x :: rest else x :: insertBy before a rest

theorem mem_insertBy {α : Type} {before : α → α → Bool} {a x : α} {l : List α} :
    x ∈ insertBy before a l ↔ x = a ∨ x ∈ l := by
  induction l with
  | nil => exact List.mem_cons
  | cons b l ih =>
    rw [insertBy]
    split
    case isTrue => exact List.mem_cons
    case isFalse =>
      rw [List.mem_cons, ih, List.mem_cons]
      exact or_left_comm

/-- An element comparable with each of an ordered list goes to its place. -/
theorem pairwise_insertBy {α : Type} {before : α → α → Bool}
    (htrans : ∀ a b c, before a b = true → before b c = true → before a c = true) {p : α} {l : List α}
    (hcomparable : ∀ x ∈ l, before p x = true ∨ before x p = true) (h : l.Pairwise fun a b => before a b = true) :
    (insertBy before p l).Pairwise fun a b => before a b = true := by
  induction l with
  | nil => exact List.pairwise_singleton _ p
  | cons a l ih =>
    obtain ⟨ha, hl⟩ := List.pairwise_cons.mp h
    rw [insertBy]
    split
    case isTrue hpa =>
      refine List.pairwise_cons.mpr ⟨fun x hx => ?_, h⟩
      rcases List.mem_cons.mp hx with rfl | hx
      · exact hpa
      · exact htrans p a x hpa (ha x hx)
    case isFalse hpa =>
      refine List.pairwise_cons.mpr ⟨fun x hx => ?_, ih (fun x hx => hcomparable x (List.mem_cons_of_mem a hx)) hl⟩
      rcases mem_insertBy.mp hx with rfl | hx
      · exact (hcomparable a List.mem_cons_self).resolve_left hpa
      · exact ha x hx

theorem mem_foldr_insertBy {α : Type} {before : α → α → Bool} {x : α} {l : List α} :
    x ∈ l.foldr (insertBy before) [] ↔ x ∈ l := by
  induction l with
  | nil => exact Iff.rfl
  | cons a l ih => rw [List.foldr_cons, mem_insertBy, ih, List.mem_cons]

/-- A list whose elements are comparable is put in order. -/
theorem pairwise_foldr_insertBy {α : Type} {before : α → α → Bool}
    (htrans : ∀ a b c, before a b = true → before b c = true → before a c = true) {l : List α}
    (hcomparable : l.Pairwise fun a b => before a b = true ∨ before b a = true) :
    (l.foldr (insertBy before) []).Pairwise fun a b => before a b = true := by
  induction l with
  | nil => exact List.Pairwise.nil
  | cons a l ih =>
    obtain ⟨ha, hl⟩ := List.pairwise_cons.mp hcomparable
    exact pairwise_insertBy htrans (fun x hx => ha x (mem_foldr_insertBy.mp hx)) (ih hl)

/-! ## Places in a list -/

/-- The place of the first element that passes a test, counted from 1; 0 where none does. -/
def placeOf {α : Type} (f : α → Bool) (l : List α) : Nat :=
  match l.findIdx? f with
  | none => 0
  | some k => k + 1

theorem placeOf_eq_zero {α : Type} {f : α → Bool} {l : List α} (h : ∀ x ∈ l, f x = false) : placeOf f l = 0 := by
  rw [placeOf, List.findIdx?_eq_none_iff.mpr h]

theorem placeOf_eq {α : Type} {f : α → Bool} {l : List α} {k : Nat} {x : α} (hx : l[k]? = some x) (hf : f x = true)
    (hfirst : ∀ j y, j < k → l[j]? = some y → f y = false) : placeOf f l = k + 1 := by
  obtain ⟨hk, rfl⟩ := List.getElem?_eq_some_iff.mp hx
  have hfind : l.findIdx? f = some k := List.findIdx?_eq_some_iff_getElem.mpr
    ⟨hk, hf, fun j hj => by simpa using hfirst j l[j] hj (List.getElem?_eq_getElem _)⟩
  rw [placeOf, hfind]

theorem rankOf_eq (l : List ResultRecord) (p : Station) : rankOf l p = placeOf (fun r => decide (r.station = p)) l := rfl

theorem placeIn_eq (l : List Station) (p : Station) : placeIn l p = placeOf (fun q => decide (q = p)) l := rfl

/-- A station's rank is its place in the list. -/
theorem rankIs_rankOf (l : List ResultRecord) (p : Station) : rankIs l p (rankOf l p) := by
  rw [rankOf_eq]
  refine ⟨fun h => placeOf_eq_zero fun x hx => decide_eq_false (h x hx), fun k x hx hp hfirst => ?_⟩
  exact placeOf_eq hx (decide_eq_true hp) fun j y hj hy => decide_eq_false (hfirst j y hj hy)

theorem nodup_stations : stations.Nodup := by decide

/-! ## The live rank (R143) -/

theorem Image.before_iff {i : Image} {a b : Station} :
    i.before a b = true ↔ (i.records.get a).group < (i.records.get b).group ∨
      ((i.records.get a).group = (i.records.get b).group ∧ ((i.records.get a).key < (i.records.get b).key ∨
        ((i.records.get a).key = (i.records.get b).key ∧ a.val < b.val))) := by
  simp [Image.before]

theorem Image.before_trans {i : Image} (a b c : Station) (hab : i.before a b = true) (hbc : i.before b c = true) :
    i.before a c = true := by
  rw [Image.before_iff] at hab hbc ⊢
  omega

theorem Image.before_or {i : Image} {a b : Station} (h : a ≠ b) : i.before a b = true ∨ i.before b a = true := by
  have hval : a.val ≠ b.val := fun hval => h (Fin.ext hval)
  rw [Image.before_iff, Image.before_iff]
  omega

theorem Image.insert_eq (i : Image) (p : Station) (l : List Station) :
    i.insert p l = insertBy i.before p l := by
  induction l with
  | nil => rfl
  | cons x l ih => rw [Image.insert, insertBy, ih]

theorem Image.liveRanking_eq (i : Image) :
    i.liveRanking = (stations.filter (inMask i.mask)).foldr (insertBy i.before) [] := by
  rw [Image.liveRanking, funext fun p => funext (i.insert_eq p)]

theorem Image.liveRanking_pairwise (i : Image) : i.liveRanking.Pairwise fun a b => i.before a b = true := by
  rw [Image.liveRanking_eq]
  exact pairwise_foldr_insertBy Image.before_trans ((nodup_stations.filter _).imp Image.before_or)

theorem Image.mem_liveRanking (i : Image) (p : Station) : p ∈ i.liveRanking ↔ inMask i.mask p = true := by
  rw [Image.liveRanking_eq, mem_foldr_insertBy, List.mem_filter, and_iff_right (mem_stations p)]

theorem Image.liveRanking_nodup (i : Image) : i.liveRanking.Nodup := by
  refine i.liveRanking_pairwise.imp fun {a b} h => ?_
  rintro rfl
  rw [Image.before_iff] at h
  omega

/-- The group of a station record, as the manual numbers them. -/
theorem StationRecord.group_eq (r : StationRecord) : r.group = liveGroup r := by
  unfold StationRecord.group liveGroup
  cases r.finishValid
  · cases r.own
    · simp
      grind
    · simp
  · rfl

theorem liveGroup_bounds (r : StationRecord) : 1 ≤ liveGroup r ∧ liveGroup r ≤ 5 := by
  unfold liveGroup
  repeat' split
  all_goals omega

/-- The key of a station record, group by group. -/
theorem StationRecord.key_of_one {r : StationRecord} (h : liveGroup r = 1) : r.key = r.finish.toInt := by
  simp [StationRecord.key, StationRecord.group_eq, h]

theorem StationRecord.key_of_progress {r : StationRecord} (h : liveGroup r = 2 ∨ liveGroup r = 3) :
    r.key = -(r.g.toNat : Int) := by
  rcases h with h | h <;> simp [StationRecord.key, StationRecord.group_eq, h]

theorem StationRecord.key_of_station {r : StationRecord} (h : 4 ≤ liveGroup r) : r.key = 0 := by
  rw [StationRecord.key, StationRecord.group_eq]
  split
  all_goals omega

/-- The order of the model is that of R143. -/
theorem ranksLive_of_before {i : Image} {a b : Station} (h : i.before a b = true) :
    ranksLive a b (i.records.get a) (i.records.get b) := by
  rw [Image.before_iff, StationRecord.group_eq, StationRecord.group_eq] at h
  rcases h with hgroup | ⟨hgroup, hkey⟩
  · exact .inl hgroup
  refine .inr ⟨hgroup, ?_⟩
  obtain ⟨hlow, hhigh⟩ := liveGroup_bounds (i.records.get a)
  rcases (by omega : liveGroup (i.records.get a) = 1 ∨
      (liveGroup (i.records.get a) = 2 ∨ liveGroup (i.records.get a) = 3) ∨ 4 ≤ liveGroup (i.records.get a))
    with hone | hprogress | hstation
  · rw [StationRecord.key_of_one hone, StationRecord.key_of_one (hgroup ▸ hone)] at hkey
    exact .inl ⟨hone, hkey.imp_right fun ⟨heq, hlt⟩ => ⟨BitVec.eq_of_toInt_eq heq, hlt⟩⟩
  · rw [StationRecord.key_of_progress hprogress, StationRecord.key_of_progress (hgroup ▸ hprogress)] at hkey
    refine .inr (.inl ⟨hprogress, ?_⟩)
    rcases hkey with hlt | ⟨heq, hlt⟩
    · exact .inl (by omega)
    · exact .inr ⟨BitVec.eq_of_toNat_eq (by omega), hlt⟩
  · rw [StationRecord.key_of_station hstation, StationRecord.key_of_station (hgroup ▸ hstation)] at hkey
    refine .inr (.inr ⟨hstation, ?_⟩)
    rcases hkey with hlt | ⟨_, hlt⟩
    · exact absurd hlt (Int.lt_irrefl 0)
    · exact hlt

theorem Image.get_complete (i : Image) (p : Station) :
    i.complete.records.get p = { i.records.get p with rank := placeIn i.liveRanking p } := by
  rw [Image.complete, Eight.get_ofFn]

/-- The place of a station in a list without repetition. -/
theorem placeIn_of_getElem? {l : List Station} (h : l.Nodup) {p : Station} {k : Nat} (hp : l[k]? = some p) :
    placeIn l p = k + 1 := by
  rw [placeIn_eq]
  refine placeOf_eq hp (decide_eq_true rfl) fun j y hj hy => decide_eq_false fun hyp => ?_
  subst hyp
  obtain ⟨hk, hgetk⟩ := List.getElem?_eq_some_iff.mp hp
  obtain ⟨hj', hgetj⟩ := List.getElem?_eq_some_iff.mp hy
  exact List.pairwise_iff_getElem.mp h j k hj' hk hj (hgetj.trans hgetk.symm)

/-- Settles O17: the banks after a completion, and the live rank and the present mask of the completed image. -/
theorem buildCompletionRanksImage : Obligations.BuildCompletionRanksImage := by
  refine ⟨fun s b hstands hbuild hnext => ?_, fun i => ⟨rfl, fun p => ?_, ?_, i.mem_liveRanking, fun p hp => ?_,
    fun p k hk => ?_, inMask_maskOf _⟩⟩
  · refine ⟨s.setImage s.image.completeBuild, ?_, rfl, rfl, ?_⟩
    · simp only [exec, execBuildCompletion, hbuild, if_neg (Nat.not_lt.mpr hnext)]
      exact done_same hstands rfl rfl
    · show s.image.completeBuild.banks = _
      rw [ImageBuilder.completeBuild_eq]
      refine (s.image.banks_mapBanks Bank.afterCompletion).trans (List.map_congr_left fun k _ => ?_)
      cases k <;> rfl
  · rw [Image.get_complete]
  · exact i.liveRanking_pairwise.imp ranksLive_of_before
  · rw [Image.get_complete]
    refine placeOf_eq_zero fun q hq => decide_eq_false ?_
    rintro rfl
    rw [(i.mem_liveRanking q).mp hq] at hp
    cases hp
  · rw [Image.get_complete]
    exact placeIn_of_getElem? i.liveRanking_nodup hk

/-! ## The results list (R111 to R114) -/

theorem ResultRecord.before_iff {a b : ResultRecord} :
    a.before b = true ↔ a.category.code < b.category.code ∨
      (a.category.code = b.category.code ∧ (a.key < b.key ∨ (a.key = b.key ∧ a.station.val < b.station.val))) := by
  simp [ResultRecord.before]

theorem ResultRecord.before_trans (a b c : ResultRecord) (hab : a.before b = true) (hbc : b.before c = true) :
    a.before c = true := by
  rw [ResultRecord.before_iff] at hab hbc ⊢
  omega

theorem ResultRecord.before_or {a b : ResultRecord} (h : a.station ≠ b.station) :
    a.before b = true ∨ b.before a = true := by
  have hval : a.station.val ≠ b.station.val := fun hval => h (Fin.ext hval)
  rw [ResultRecord.before_iff, ResultRecord.before_iff]
  omega

theorem insertRanked_eq (r : ResultRecord) (l : List ResultRecord) :
    insertRanked r l = insertBy ResultRecord.before r l := by
  induction l with
  | nil => rfl
  | cons x l ih => rw [insertRanked, insertBy, ih]

theorem ranked_eq (l : List ResultRecord) : ranked l = l.foldr (insertBy ResultRecord.before) [] := by
  rw [ranked, funext fun r => funext (insertRanked_eq r)]

theorem Category.groupOrder_eq (c : Category) : groupOrder c = c.code := by
  cases c <;> rfl

theorem Category.code_inj {c d : Category} (h : c.code = d.code) : c = d := by
  cases c <;> cases d <;> first | rfl | cases h

/-- Keys that count down from the largest value are in the order opposite to the values. -/
theorem complement_lt_iff (x y : BitVec 32) :
    (4294967295 - x.toNat < 4294967295 - y.toNat ↔ y.toNat < x.toNat) ∧
      (4294967295 - x.toNat = 4294967295 - y.toNat ↔ x = y) := by
  bv_omega

/-- The order of the model is that of R114. -/
theorem ranksBefore_of_before {a b : ResultRecord} (h : a.before b = true) : ranksBefore a b := by
  rw [ResultRecord.before_iff] at h
  rcases h with hgroup | ⟨hgroup, hkey⟩
  · exact .inl (by rwa [Category.groupOrder_eq, Category.groupOrder_eq])
  have hcategory := Category.code_inj hgroup
  refine .inr ⟨hcategory, ?_⟩
  unfold ResultRecord.key at hkey
  rw [← hcategory] at hkey
  cases ha : a.category
  all_goals simp only [ha] at hkey ⊢
  case finished => exact hkey.imp_right fun ⟨heq, hlt⟩ => ⟨BitVec.eq_of_toNat_eq heq, hlt⟩
  case dnf | lost =>
    obtain ⟨hless, hequal⟩ := complement_lt_iff (a.progress.getD 0) (b.progress.getD 0)
    rw [hless, hequal] at hkey
    exact hkey
  case retired =>
    rcases hkey with hlt | ⟨_, hlt⟩
    · exact absurd hlt (Nat.lt_irrefl 0)
    · exact hlt

theorem State.participants_eq {s : State} {r : RaceRecord} (h : s.race.record = some r) :
    s.participants = stations.filter (inMask r.mask) := by
  rw [State.participants, h]

theorem State.nodup_participants (s : State) : s.participants.Nodup := by
  unfold State.participants
  split
  · exact List.nodup_nil
  · exact nodup_stations.filter _

theorem State.mem_resultsFor {s : State} {limit : Option (BitVec 32)} {x : ResultRecord} :
    x ∈ s.resultsFor limit ↔ ∃ p ∈ s.participants, s.resultRecord limit p = x := by
  rw [State.resultsFor, ranked_eq, mem_foldr_insertBy, List.mem_map]

/-- The results list is in the order of R114. -/
theorem State.resultsFor_pairwise (s : State) (limit : Option (BitVec 32)) :
    (s.resultsFor limit).Pairwise ranksBefore := by
  rw [State.resultsFor, ranked_eq]
  refine (pairwise_foldr_insertBy ResultRecord.before_trans ?_).imp ranksBefore_of_before
  exact List.pairwise_map.mpr (s.nodup_participants.imp fun {p q} (hpq : p ≠ q) =>
    ResultRecord.before_or (a := s.resultRecord limit p) (b := s.resultRecord limit q) hpq)

/-! ### The category (R111) -/

theorem State.category_finished_iff {s : State} {limit : Option (BitVec 32)} {p : Station} :
    s.category limit p = .finished ↔
      ∃ n, (s.entry p).finish = some n ∧ ∀ e, limit = some e → 0 ≤ interval n e := by
  have hcounts : ∀ n, finishCounts limit n = true ↔ ∀ e, limit = some e → 0 ≤ interval n e := fun n => by
    cases limit <;> simp [finishCounts]
  have hany : (s.entry p).finish.any (finishCounts limit) = true ↔
      ∃ n, (s.entry p).finish = some n ∧ ∀ e, limit = some e → 0 ≤ interval n e := by
    simp only [Option.any_eq_true, hcounts]
  rw [← hany, State.category]
  split
  case isTrue h => exact iff_of_true rfl h
  case isFalse h =>
    refine iff_of_false (fun heq => ?_) h
    repeat' split at heq
    all_goals cases heq

/-- The category of a participant whose finish does not count. -/
theorem State.category_of_not_finished {s : State} {limit : Option (BitVec 32)} {p : Station}
    (h : s.category limit p ≠ .finished) :
    (s.category limit p = .lost ↔ (s.entry p).state = .lost ∧ p ≠ s.own) ∧
      (s.category limit p = .retired ↔ (s.entry p).state = .retired ∧ p ≠ s.own) := by
  unfold State.category at h ⊢
  split
  case isTrue hfinish => exact absurd (if_pos hfinish) h
  case isFalse =>
    by_cases hown : p = s.own
    · simp [hown]
    · cases (s.entry p).state <;> simp [hown]

/-! ### The best lap (R102, R113) -/

/-- The lap times of a list of crossings, one by one. -/
theorem getElem?_lapTimes (l : List (BitVec 32)) (first : BitVec 32) (i : Nat) (hi : i < l.length) :
    (lapTimes first l)[i]? = some (l.getD i 0 - if i = 0 then first else l.getD (i - 1) 0) := by
  induction l generalizing first i with
  | nil => exact absurd hi (Nat.not_lt_zero i)
  | cons c l ih =>
    cases i with
    | zero => rfl
    | succ i =>
      have hrest := ih c i (by simpa using hi)
      cases i with
      | zero => exact hrest
      | succ i => exact hrest

theorem length_lapTimes (l : List (BitVec 32)) (first : BitVec 32) : (lapTimes first l).length = l.length := by
  induction l generalizing first with
  | nil => rfl
  | cons c l ih => rw [lapTimes, List.length_cons, ih, List.length_cons]

/-- The lap times as the manual counts them. -/
theorem getElem?_lapTimes_zero {l : List (BitVec 32)} {i : Nat} (hi : i < l.length) :
    (lapTimes 0 l)[i]? = some (lapTime l i) := getElem?_lapTimes l 0 i hi

/-- The shortest of a list and a first value is one of them and not longer than any. -/
theorem foldl_shorter (a : BitVec 32) (l : List (BitVec 32)) :
    l.foldl shorter a ∈ a :: l ∧ ∀ x ∈ a :: l, (l.foldl shorter a).toNat ≤ x.toNat := by
  induction l generalizing a with
  | nil => simp
  | cons b l ih =>
    obtain ⟨hmem, hle⟩ := ih (shorter a b)
    have hshorter : (shorter a b = a ∨ shorter a b = b) ∧ (shorter a b).toNat ≤ a.toNat ∧
        (shorter a b).toNat ≤ b.toNat := by
      unfold shorter
      split
      case isTrue h => exact ⟨.inr rfl, Nat.le_of_lt h, Nat.le_refl _⟩
      case isFalse h => exact ⟨.inl rfl, Nat.le_refl _, Nat.not_lt.mp h⟩
    obtain ⟨hone, hlea, hleb⟩ := hshorter
    have hfirst := hle _ List.mem_cons_self
    rw [List.foldl_cons]
    constructor
    · rcases List.mem_cons.mp hmem with heq | hmem
      · rw [heq]
        rcases hone with h | h <;> rw [h] <;> simp
      · exact List.mem_cons_of_mem a (List.mem_cons_of_mem b hmem)
    · intro x hx
      rcases List.mem_cons.mp hx with rfl | hx
      · exact Nat.le_trans hfirst hlea
      rcases List.mem_cons.mp hx with rfl | hx
      · exact Nat.le_trans hfirst hleb
      · exact hle x (List.mem_cons_of_mem _ hx)

/-- The best lap is one of the lap times and not longer than any (R113). -/
theorem bestLap_eq {l : List (BitVec 32)} (hl : l ≠ []) :
    ∃ b, bestLap l = some b ∧ (∃ i, i < l.length ∧ lapTime l i = b) ∧
      ∀ i, i < l.length → b.toNat ≤ (lapTime l i).toNat := by
  have hlength := length_lapTimes l 0
  cases htimes : lapTimes 0 l with
  | nil =>
    rw [htimes] at hlength
    exact absurd (List.length_eq_zero_iff.mp hlength.symm) hl
  | cons a rest =>
    obtain ⟨hmem, hle⟩ := foldl_shorter a rest
    rw [← htimes] at hmem hle
    refine ⟨rest.foldl shorter a, by rw [bestLap, htimes], ?_, fun i hi => ?_⟩
    · obtain ⟨i, hi⟩ := List.mem_iff_getElem?.mp hmem
      obtain ⟨hlt, -⟩ := List.getElem?_eq_some_iff.mp hi
      have hlt' : i < l.length := hlength ▸ hlt
      exact ⟨i, hlt', Option.some.inj ((getElem?_lapTimes_zero hlt').symm.trans hi)⟩
    · exact hle _ (List.mem_iff_getElem?.mpr ⟨i, getElem?_lapTimes_zero hi⟩)

/-- Settles O41: the order of the results list, its stations, and the fields of each record. -/
theorem resultsListRanked : Obligations.ResultsListRanked := by
  intro s limit r hrecord
  have hparticipant : ∀ p, p ∈ s.participants ↔ inMask r.mask p = true := fun p => by
    rw [State.participants_eq hrecord, List.mem_filter, and_iff_right (mem_stations p)]
  refine ⟨s.resultsFor_pairwise limit, fun p => ⟨fun ⟨x, hx, hp⟩ => ?_, fun hp => ?_⟩, fun x hx => ?_⟩
  · obtain ⟨q, hq, rfl⟩ := State.mem_resultsFor.mp hx
    exact (hparticipant p).mp (hp ▸ hq)
  · exact ⟨_, State.mem_resultsFor.mpr ⟨p, (hparticipant p).mpr hp, rfl⟩, rfl⟩
  · obtain ⟨p, -, rfl⟩ := State.mem_resultsFor.mp hx
    refine ⟨rfl, rfl, State.category_finished_iff, ?_, ?_, rfl, fun h => ?_, fun hown hlaps => ?_⟩
    · show s.category limit p = .lost ↔ (s.entry p).state = .lost ∧ p ≠ s.own ∧ s.category limit p ≠ .finished
      by_cases hfinished : s.category limit p = .finished
      · simp [hfinished]
      · simp [(State.category_of_not_finished hfinished).1, hfinished]
    · show s.category limit p = .retired ↔ (s.entry p).state = .retired ∧ p ≠ s.own ∧ s.category limit p ≠ .finished
      by_cases hfinished : s.category limit p = .finished
      · simp [hfinished]
      · simp [(State.category_of_not_finished hfinished).2, hfinished]
    · show (if p = s.own then bestLap s.race.lapList else none) = none
      rcases h with hother | hempty
      · exact if_neg hother
      · rw [hempty]
        exact ite_self _
    · show ∃ b, (if p = s.own then bestLap s.race.lapList else none) = some b ∧ _
      rw [if_pos (show p = s.own from hown)]
      exact bestLap_eq hlaps

end Sys2Proof.Machine
end

section
/-! PROOFS. The read of an entry into the image being built (R129 to R132, R138, R139, R142). -/

namespace Sys2Proof.Machine

open Sys2Proof.Claims

/-! ## The banks at a read (R136) -/

/-- What a read makes of a bank. -/
def Bank.afterRead (j : Image) : Bank → Bank
  | .filling _ => .filling j
  | .ready i => .ready i
  | .opened i => .opened i
  | .free => .free

theorem ImageBuilder.write_eq (b : ImageBuilder) (j : Image) : b.write j = b.mapBanks (Bank.afterRead j) :=
  congrArg b.mapBanks (funext fun k => by cases k <;> rfl)

/-- The image being built after a read. -/
theorem ImageBuilder.filling_write {b : ImageBuilder} {i : Image} (h : b.filling = some i) (j : Image) :
    (b.write j).filling = some j := by
  have hrule : Bank.fillingImage ∘ Bank.afterRead j = Option.map (fun _ => j) ∘ Bank.fillingImage := by
    funext k
    cases k <;> rfl
  calc (b.write j).filling
      = (b.banks.map (Bank.afterRead j)).findSome? Bank.fillingImage := by
        rw [write_eq, filling, banks_mapBanks]
    _ = b.banks.findSome? (Bank.fillingImage ∘ Bank.afterRead j) := List.findSome?_map
    _ = b.filling.map fun _ => j := by rw [hrule, filling, List.map_findSome?]
    _ = some j := by rw [h]; rfl

/-! ## How an entry is shown (R129, R131, R132) -/

theorem State.showing_unplaced {s : State} {p : Station} (h : (s.entry p).car = none) : s.showing p = .unplaced := by
  rw [State.showing, h]

theorem State.showing_stored {s : State} {p : Station} {c : CarRecord} (h : (s.entry p).car = some c) (hp : p = s.own) :
    s.showing p = .stored c.car := by
  simp only [State.showing, h, if_pos hp]

theorem State.showing_held {s : State} {p : Station} {c : CarRecord} (h : (s.entry p).car = some c) (hp : p ≠ s.own)
    (hstate : (s.entry p).state = .lost ∨ (s.entry p).state = .retired) : s.showing p = .held c.car := by
  simp only [State.showing, h, if_neg hp, if_pos hstate]

theorem State.showing_carried {s : State} {p : Station} {c : CarRecord} (h : (s.entry p).car = some c) (hp : p ≠ s.own)
    (hlost : (s.entry p).state ≠ .lost) (hretired : (s.entry p).state ≠ .retired) : s.showing p = .carried c.car := by
  simp only [State.showing, h, if_neg hp, if_neg (not_or.mpr ⟨hlost, hretired⟩)]

/-- The display group of an entry as a read leaves it, SNAPPED apart. -/
def State.readDisplay (s : State) (i : Image) (p : Station) : Display :=
  (s.showing p).display s.settings (s.entry p).display i.capture

/-- The image being built with the record of an entry that was read. -/
def Image.withRecord (i : Image) (p : Station) (r : StationRecord) : Image := { i with records := i.records.set p r }

/-- A held entry is shown at its last displayed values, or where it has none at its stored ones; both mark it shown. -/
theorem Display.shown_showHeld (d : Display) (c : CarValues) : (d.showHeld c).shown = true := by
  unfold Display.showHeld
  split
  · assumption
  · rfl

/-- A held or stored entry keeps its corrections. -/
theorem Display.corrections_showHeld (d : Display) (c : CarValues) :
    (d.showHeld c).cx = d.cx ∧ (d.showHeld c).cy = d.cy ∧ (d.showHeld c).cz = d.cz ∧ (d.showHeld c).ch = d.ch := by
  unfold Display.showHeld
  split <;> exact ⟨rfl, rfl, rfl, rfl⟩

/-- BUILD_ENTRY_READ of a station. -/
theorem exec_buildEntryRead {s : State} {b : Build} {i : Image} {p : Station} (hstands : s.currentStands = true)
    (hbuild : s.image.build = some b) (hfilling : s.image.filling = some i) (hnext : b.next = p.val) :
    exec .buildEntryRead s = .next (s.readEntry b i p) := by
  obtain ⟨n, hn⟩ := p
  obtain rfl : b.next = n := hnext
  simp only [exec, execBuildEntryRead, hbuild, hfilling, dif_pos hn]
  exact done_same hstands rfl rfl

/-- What a read leaves of the entry read: its display, SNAPPED cleared. -/
theorem State.entry_readEntry (s : State) (b : Build) (i : Image) (p q : Station) :
    (s.readEntry b i p).entry q =
      if q = p then { s.entry p with display := { s.readDisplay i p with snapped := false } } else s.entry q :=
  s.entry_setEntry p q _

/-- The part of a station record that depends on how the entry is shown. -/
theorem State.stationRecord_shown {s : State} {p : Station} {k : Showing} (h : s.showing p = k) (f : Instant)
    (d : Display) (hplaced : k ≠ .unplaced) :
    (s.stationRecord p f d).stale = k.stale s.settings f ∧
      (s.stationRecord p f d).snapped = ((s.entry p).display.snapped && decide (p ≠ s.own)) ∧
      (s.stationRecord p f d).noPosition = false ∧ (s.stationRecord p f d).x = d.x ∧
      (s.stationRecord p f d).y = d.y ∧ (s.stationRecord p f d).z = d.z ∧ (s.stationRecord p f d).h = d.h ∧
      (s.stationRecord p f d).g = d.g := by
  have hvalue : ∀ {n : Nat} (v : BitVec n), k.placed v = v := fun v => by
    cases k
    case unplaced => exact absurd rfl hplaced
    all_goals rfl
  simp [State.stationRecord, h, hvalue, hplaced]

/-- A stored or held entry: the display left is the record's values beside the corrections as they were. -/
theorem Display.left_eq {d d' : Display} (hcorrections : d'.cx = d.cx ∧ d'.cy = d.cy ∧ d'.cz = d.cz ∧ d'.ch = d.ch)
    (hshown : d'.shown = true) :
    { d' with snapped := false } =
      { d with x := d'.x, y := d'.y, z := d'.z, h := d'.h, g := d'.g, snapped := false, shown := true } := by
  obtain ⟨hcx, hcy, hcz, hch⟩ := hcorrections
  rw [← hcx, ← hcy, ← hcz, ← hch, ← hshown]

/-- Settles O14: the record written and the display left, by how the entry is shown. -/
theorem buildReadsNextEntry : Obligations.BuildReadsNextEntry := by
  intro s b i p hstands hbuild hfilling hnext
  have hentry : (s.readEntry b i p).entry p = { s.entry p with display := { s.readDisplay i p with snapped := false } } := by
    rw [State.entry_readEntry, if_pos rfl]
  refine ⟨s.readEntry b i p, i.withRecord p (s.stationRecord p i.capture (s.readDisplay i p)),
    s.stationRecord p i.capture (s.readDisplay i p), exec_buildEntryRead hstands hbuild hfilling hnext, rfl, ?_, ?_, ?_,
    rfl, ?_, fun q hq => ?_, rfl, fun q hq => ?_, ?_, ⟨rfl, rfl, ?_, rfl, rfl, rfl, rfl⟩, fun hcar => ?_,
    fun c hcar hstate => ?_, fun c hcar hp => ?_, fun c hcar hp hstate => ?_, fun c hcar hp hlost hretired => ?_⟩
  · rw [← hnext]
    rfl
  · exact ImageBuilder.filling_write hfilling _
  · refine (congrArg ImageBuilder.banks (ImageBuilder.write_eq _ _)).trans ?_
    refine (s.image.banks_mapBanks _).trans (List.map_congr_left fun k _ => ?_)
    cases k <;> rfl
  · exact (Eight.get_set ..).trans (if_pos rfl)
  · exact (Eight.get_set ..).trans (if_neg hq)
  · rw [State.entry_readEntry, if_neg hq]
  · rw [hentry]
  · rw [← OwnState.code_eq, ← EntryState.code_eq]
    rfl
  · have hshow := State.showing_unplaced hcar
    have hdisplay : s.readDisplay i p = (s.entry p).display := by rw [State.readDisplay, hshow]; rfl
    refine ⟨?_, ?_, ?_, ?_, ?_, ?_, ?_, ?_, ?_, fun hsnapped => by rw [hentry, hdisplay, ← hsnapped]⟩
    all_goals simp [State.stationRecord, hshow, Showing.stale, Showing.placed]
  · have hplaced : s.showing p ≠ .unplaced := by
      simp only [State.showing, hcar]
      repeat' split
      all_goals exact nofun
    obtain ⟨-, -, -, hx, hy, hz, hh, hg⟩ := State.stationRecord_shown rfl i.capture (s.readDisplay i p) hplaced
    rw [hentry, hx, hy, hz, hh, hg]
    by_cases hp : p = s.own
    · refine Display.left_eq ?_ ?_
      all_goals rw [State.readDisplay, State.showing_stored hcar hp]
      · exact ⟨rfl, rfl, rfl, rfl⟩
      · rfl
    · refine Display.left_eq ?_ ?_
      all_goals rw [State.readDisplay, State.showing_held hcar hp (hstate.resolve_left hp)]
      · exact Display.corrections_showHeld _ _
      · exact Display.shown_showHeld _ _
  · have hshow := State.showing_stored hcar hp
    obtain ⟨hstale, hsnapped, hplace, hx, hy, hz, hh, hg⟩ :=
      State.stationRecord_shown hshow i.capture (s.readDisplay i p) nofun
    rw [hx, hy, hz, hh, hg, State.readDisplay, hshow]
    rw [State.readDisplay, hshow] at hsnapped
    refine ⟨hplace, hstale, ?_, by simp [State.stationRecord, hshow], rfl, rfl, rfl, rfl, rfl⟩
    simpa [hp] using hsnapped
  · have hshow := State.showing_held hcar hp hstate
    obtain ⟨hstale, hsnapped, hplace, hx, hy, hz, hh, hg⟩ :=
      State.stationRecord_shown hshow i.capture (s.readDisplay i p) nofun
    rw [hx, hy, hz, hh, hg, State.readDisplay, hshow]
    rw [State.readDisplay, hshow] at hsnapped
    refine ⟨hplace, hstale, by simp [State.stationRecord, hshow], by simpa [hp] using hsnapped, ?_⟩
    show if (s.entry p).display.shown = true then _ else _
    unfold Showing.display Display.showHeld
    split
    · exact ⟨rfl, rfl, rfl, rfl, rfl⟩
    · exact ⟨rfl, rfl, rfl, rfl, rfl⟩
  · have hshow := State.showing_carried hcar hp hlost hretired
    obtain ⟨hstale, hsnapped, hplace, hx, hy, hz, hh, hg⟩ :=
      State.stationRecord_shown hshow i.capture (s.readDisplay i p) nofun
    rw [hx, hy, hz, hh, hg, hentry, State.readDisplay, hshow]
    rw [State.readDisplay, hshow] at hsnapped
    refine ⟨hplace, by simp [State.stationRecord, hshow], by simpa [hp] using hsnapped, hstale, rfl, rfl, rfl, rfl,
      rfl, rfl⟩

end Sys2Proof.Machine
end

section
/-! PROOFS. What is due, what may come, and the passage of time (R1 to R4, R11, R13, R40, R48, R166, R190). -/

namespace Sys2Proof.Machine

open Sys2Proof.Claims

/-! ## The tests of what is due -/

theorem expired_iff {s : State} {t : Timer} : t.due s.tick = true ↔ expired s t := Timer.due_iff

theorem State.loadDue_iff {s : State} :
    s.loadDue = true ↔ s.cmd.unit = .loading ∧ expired s s.loader.loadTimer := by
  simp [State.loadDue, expired_iff]

theorem TxPhase.mayBegin_iff {x : TxPhase} : x.mayBegin = true ↔ x = .ready ∨ x = .backoff := by
  cases x <;> simp [TxPhase.mayBegin]

theorem State.opportunityOpen_iff {s : State} :
    s.opportunityOpen = true ↔
      (s.tx.phase = .ready ∨ s.tx.phase = .backoff) ∧ s.workPending = true ∧ s.lineOpen = true := by
  rw [State.opportunityOpen, Bool.and_eq_true, Bool.and_eq_true, TxPhase.mayBegin_iff, and_assoc]

/-- A test of the instant of the take, for a command in progress. -/
theorem UnitState.taken_any {u : UnitState} {f : Instant → Bool} :
    u.taken.any f = true ↔ ∃ r w at', u = .busy r w at' ∧ f at' = true := by
  cases u with
  | busy r w at' =>
    refine ⟨fun h => ⟨r, w, at', rfl, h⟩, fun ⟨_, _, _, heq, h⟩ => ?_⟩
    cases heq
    exact h
  | _ => exact ⟨nofun, fun ⟨_, _, _, heq, _⟩ => nomatch heq⟩

theorem State.completionDue_iff {s : State} :
    s.completionDue = true ↔ ∃ r w at', s.cmd.unit = .busy r w at' ∧ 50 ≤ interval at' s.tick := by
  simp [State.completionDue, UnitState.taken_any]

theorem State.completionPossible_iff {s : State} :
    s.completionPossible = true ↔ ∃ r w at', s.cmd.unit = .busy r w at' ∧ interval at' s.tick < 50 := by
  simp [State.completionPossible, UnitState.taken_any]

theorem State.absentMayWait_iff {s : State} : s.absentMayWait = true ↔ forming s := by
  simp only [State.absentMayWait, FrameCapture.forming, forming, Bool.and_eq_true, decide_eq_true_eq, Bool.not_eq_true',
    and_assoc]

/-- An expiry of the frame-absent timer, whether it is due or may wait. -/
theorem State.absentDue_iff {s : State} :
    (s.frame.absentTimer.due s.tick && !s.absentMayWait) = true ↔ expired s s.frame.absentTimer ∧ ¬ forming s := by
  rw [Bool.and_eq_true, Bool.not_eq_true', ← Bool.not_eq_true, State.absentMayWait_iff, expired_iff]

theorem State.absentPossible_iff {s : State} :
    (s.frame.absentTimer.due s.tick && s.absentMayWait) = true ↔ expired s s.frame.absentTimer ∧ forming s := by
  rw [Bool.and_eq_true, State.absentMayWait_iff, expired_iff]

theorem mem_flatMap_dueIf_stations {f : Station → Bool} {g : Station → Instr} {c : Instr} :
    c ∈ stations.flatMap (fun p => dueIf (f p) (g p)) ↔ ∃ p, f p = true ∧ c = g p := by
  simp [mem_dueIf, mem_stations]

theorem mem_flatMap_dueIf_pins {f : Pin → Bool} {g : Pin → Instr} {c : Instr} :
    c ∈ pins.flatMap (fun p => dueIf (f p) (g p)) ↔ ∃ p, f p = true ∧ c = g p := by
  have hall : ∀ k : Pin, k ∈ pins := by decide
  simp [mem_dueIf, hall]

/-- The row of a level confirmed anew. -/
theorem State.mem_confirmed {s : State} {c : Instr} :
    c ∈ s.frame.toConfirm.toList.map s.frame.confirmation ↔
      (c = .candidatePulse ∧ agreeing s false ∧ s.frame.level = some true) ∨
        ∃ high, c = .frameInputLevelConfirmed high ∧ agreeing s high ∧ (s.frame.level = some true → high = true) := by
  rw [State.mem_confirmation]
  unfold agreeing
  constructor
  · rintro ⟨high, hsampling, hnewest, hprevious, hlevel, ⟨htrue, rfl, rfl⟩ | ⟨hnot, rfl⟩⟩
    · exact .inl ⟨rfl, ⟨hsampling, hnewest, hprevious, hlevel⟩, htrue⟩
    · refine .inr ⟨high, rfl, ⟨hsampling, hnewest, hprevious, hlevel⟩, fun htrue => ?_⟩
      cases high
      · exact absurd ⟨htrue, rfl⟩ hnot
      · rfl
  · rintro (⟨rfl, ⟨hsampling, hnewest, hprevious, hlevel⟩, htrue⟩ |
      ⟨high, rfl, ⟨hsampling, hnewest, hprevious, hlevel⟩, hhigh⟩)
    · exact ⟨false, hsampling, hnewest, hprevious, hlevel, .inl ⟨htrue, rfl, rfl⟩⟩
    · refine ⟨high, hsampling, hnewest, hprevious, hlevel, .inr ⟨?_, rfl⟩⟩
      rintro ⟨htrue, rfl⟩
      exact absurd (hhigh htrue) (by decide)

theorem Build.due_iff {b : Build} {now : Instant} :
    (b.due now = true ↔ 999 ≤ interval b.started now) ∧ (b.due now = false ↔ interval b.started now < 999) := by
  simp [Build.due]

/-- What is due at a tick, event by event (R3). -/
theorem State.mem_dueEvents (s : State) (c : Instr) : c ∈ s.dueEvents ↔ comesDue s c := by
  unfold State.dueEvents State.frameDue State.txDue State.peersDue State.raceDue State.lampDue
  simp only [List.mem_append, State.mem_confirmed, State.mem_buildStep, mem_flatMap_dueIf_stations,
    mem_flatMap_dueIf_pins, mem_dueIf, State.loadDue_iff, State.absentDue_iff, State.opportunityOpen_iff, expired_iff,
    State.completionDue_iff, Build.due_iff.1]
  cases c <;> simp [comesDue]

/-- What may come at a tick though it is not due. -/
theorem State.mem_possibleEvents (s : State) (c : Instr) : c ∈ s.possibleEvents ↔ mayCome s c := by
  unfold State.possibleEvents
  simp only [List.mem_append, State.mem_buildStep, mem_dueIf, State.absentPossible_iff, State.completionPossible_iff,
    Build.due_iff.2]
  cases c <;> simp [mayCome]

/-! ## The passage of time -/

theorem State.options_ne_nil (s : State) : s.options ≠ [] := by
  unfold State.options
  split
  · simp
  · simp_all

/-- On an empty queue one of the options is taken, and the count of free values goes on. -/
theorem State.idle_eq (s : State) : ∃ o ∈ s.options, ∃ n, s.idle = (s.setFree n).takeOption o := by
  unfold State.idle
  split
  case h_1 hnone => exact absurd hnone s.options_ne_nil
  case h_2 o hone => exact ⟨o, by simp [hone], s.free, rfl⟩
  case h_3 o rest _ hmany =>
    have hlt : Config.schedulerChoice s.free % (rest.length + 1) < (o :: rest).length := Nat.mod_lt _ (Nat.succ_pos _)
    refine ⟨_, ?_, s.free + 1, rfl⟩
    rw [hmany, List.getD_eq_getElem?_getD, List.getElem?_eq_getElem hlt]
    exact List.getElem_mem hlt

/-- The tick passes only when nothing is due. -/
theorem State.none_mem_options {s : State} (h : none ∈ s.options) : s.dueEvents = [] := by
  unfold State.options at h
  split at h
  case isTrue hempty => exact List.isEmpty_iff.mp hempty
  case isFalse => simp at h

theorem State.some_mem_options {s : State} {c : Instr} (h : some c ∈ s.options) :
    c ∈ s.dueEvents ∨ c ∈ s.possibleEvents := by
  unfold State.options at h
  split at h <;> simp_all

/-- The count of STUCK as the tick advances (R48). -/
theorem State.advance_stuckCount (s : State) :
    s.advance.tx.stuckCount =
      if s.tx.phase = .stuck ∧ (s.tick + 1 - s.tx.stuckSince).toNat % 1000 = 0 then satInc s.tx.stuckCount
      else s.tx.stuckCount := by
  show ((s.tx.keepOpen s.tick).countStuck (s.tick + 1)).stuckCount = _
  unfold Transmitter.countStuck
  split
  case isTrue h => exact (if_pos h).symm
  case isFalse h => exact (if_neg h).symm

/-- The opportunity of a line that is not open stays. -/
theorem State.advance_opportunity_of_closed {s : State} (h : s.lineOpen = false) :
    s.advance.tx.opportunity = s.tx.opportunity := by
  rw [State.advance_opportunity]
  unfold State.lineOpen at h
  cases hopportunity : s.tx.opportunity with
  | none => rfl
  | some o =>
    rw [hopportunity] at h
    rw [Option.map_some, show reached s.tick o = false from h]
    rfl

/-- The input at the next tick: sampled once after load completion (R4, R5). -/
theorem State.advance_sampled (s : State) :
    (s.frame.sampling = true → s.advance.frame = { s.frame with
      newest := some s.frame.coming, previous := s.frame.newest, coming := s.advance.frame.coming }) ∧
    (s.frame.sampling = false → s.advance.frame = { s.frame with coming := s.advance.frame.coming }) := by
  have hsample := s.advance_frame
  refine ⟨fun h => hsample.trans (if_pos h), fun h => hsample.trans (if_neg ?_)⟩
  rw [h]
  exact Bool.false_ne_true

/-- A frame-absent expiry that is not due finds a candidate at the next tick (R4, R11). -/
theorem State.advance_absent {s : State} (hdue : s.dueEvents = []) (h : expired s s.frame.absentTimer) :
    s.advance.frame.absentTimer = some s.tick ∧ Instr.candidatePulse ∈ s.advance.dueEvents := by
  have hforming : forming s := Classical.byContradiction fun hnot => by
    have hmem := (s.mem_dueEvents .frameAbsentTimerExpiry).mpr ⟨h, hnot⟩
    rw [hdue] at hmem
    exact absurd hmem List.not_mem_nil
  refine ⟨?_, State.absentMayWait_candidate (State.absentMayWait_iff.mpr hforming)⟩
  obtain ⟨hsampling, -, -, -, -, -, htimer⟩ := hforming
  rw [s.advance_sampled.1 hsampling]
  exact htimer

/-- Settles O3: what is due and what may come, and what a step on an empty queue does. -/
theorem timePassesOnEmptyQueue : Obligations.TimePassesOnEmptyQueue := by
  refine ⟨fun s c => ⟨s.mem_dueEvents c, s.mem_possibleEvents c⟩, fun s hpending => ?_⟩
  obtain ⟨o, hoption, n, hidle⟩ := s.idle_eq
  refine ⟨s.idle, by rw [step, hpending], ?_⟩
  rw [hidle]
  cases o with
  | none =>
    have hdue := State.none_mem_options hoption
    refine .inl ⟨hdue, State.advance_eq (s.setFree n), (s.setFree n).advance_sampled.1,
      (s.setFree n).advance_sampled.2, State.advance_absent (s := s.setFree n) hdue,
      State.advance_keeps_line_open (s := s.setFree n), State.advance_opportunity_of_closed (s := s.setFree n),
      (s.setFree n).advance_stuckCount⟩
  | some c =>
    refine .inr ⟨c, State.some_mem_options hoption, ?_⟩
    show { s with pending := c :: s.pending, free := n } = _
    rw [hpending]
    rfl

end Sys2Proof.Machine
end

section
/-! PROOFS. The frame pulse: candidates, confirmed levels, the frame-absent expiry, and the build a pulse requests (R4 to
R15, R137, R141, R172). -/

namespace Sys2Proof.Machine

open Sys2Proof.Claims

/-! ## The held frame (R172) -/

theorem State.dropStaleHeld_eq (s : State) : s.dropStaleHeld = s.setPeers s.dropStaleHeld.peers := by
  unfold State.dropStaleHeld
  dsimp only
  repeat' split
  all_goals rfl

theorem State.peers_dropStaleHeld (s : State) :
    s.dropStaleHeld.peers = { s.peers with entries := s.dropStaleHeld.peers.entries } := by
  unfold State.dropStaleHeld
  dsimp only
  repeat' split
  all_goals rfl

/-- The own entry's held frame is kept while it is in the history. -/
theorem State.entry_dropStaleHeld_own (s : State) :
    s.dropStaleHeld.entry s.own = { s.entry s.own with
      car := (s.entry s.own).car.map fun r =>
        { r with heldFrame := r.heldFrame.filter fun n => (s.lookupFrame n).isSome } } := by
  unfold State.dropStaleHeld
  dsimp only
  split
  case h_1 hcar => rw [hcar, Option.map_none, ← hcar]
  case h_2 r hcar =>
    obtain ⟨car, laps, finishMark, held⟩ := r
    rw [hcar, Option.map_some]
    cases held with
    | none =>
      rw [if_neg (by simp), Option.filter_none, ← hcar]
    | some n =>
      rw [Option.any_some, Option.filter_some]
      cases hlookup : s.lookupFrame n with
      | none => simp
      | some c =>
        rw [if_neg (by simp), if_pos (by simp), ← hcar]

theorem State.entry_dropStaleHeld_other (s : State) {p : Station} (hp : p ≠ s.own) :
    s.dropStaleHeld.entry p = s.entry p := by
  unfold State.dropStaleHeld
  dsimp only
  repeat' split
  · rfl
  · rw [State.entry_setEntry, if_neg hp]
  · rfl

/-! ## A build request (R13, R137) -/

theorem State.requestBuild_eq (s : State) (c : Instant) : s.requestBuild c = s.setImage (s.requestBuild c).image := by
  unfold State.requestBuild State.startBuild
  repeat' split
  all_goals rfl

theorem ImageBuilder.fill_bank0 {b : ImageBuilder} (i : Image) (h : b.bank0 = .free) :
    b.fill i = some { b with bank0 := .filling i } := by
  unfold ImageBuilder.fill
  rw [h]

theorem ImageBuilder.fill_bank1 {b : ImageBuilder} (i : Image) (h0 : b.bank0 ≠ .free) (h1 : b.bank1 = .free) :
    b.fill i = some { b with bank1 := .filling i } := by
  unfold ImageBuilder.fill
  rw [h1]
  split <;> simp_all

theorem ImageBuilder.fill_bank2 {b : ImageBuilder} (i : Image) (h0 : b.bank0 ≠ .free) (h1 : b.bank1 ≠ .free)
    (h2 : b.bank2 = .free) : b.fill i = some { b with bank2 := .filling i } := by
  unfold ImageBuilder.fill
  rw [h2]
  split <;> simp_all

/-- A build request that finds a FREE bank. -/
theorem State.image_requestBuild {s : State} {c : Instant} {b : ImageBuilder} (hown : s.race.own ≠ .offline)
    (hbuild : s.image.build = none) (hfill : s.image.fill (s.startImage s.frame.counter c) = some b) :
    (s.requestBuild c).image = { b with build := some ⟨0, s.tick⟩ } := by
  rw [State.requestBuild, if_neg hown, State.startBuild, hbuild, hfill]
  rfl

theorem State.image_requestBuild_offline {s : State} (c : Instant) (hown : s.race.own = .offline) :
    (s.requestBuild c).image = s.image := by
  rw [State.requestBuild, if_pos hown]

/-! ## Candidates (R4, R6, R7, R12) -/

/-- The history after a pulse joins it: at most the seven newest before it. -/
theorem lastEight_concat {α : Type} (l : List α) (x : α) :
    lastEight (l ++ [x]) = (if l.length < 8 then l else l.drop (l.length - 7)) ++ [x] := by
  have hdrop : lastEight (l ++ [x]) = l.drop (l.length - 7) ++ [x] := by
    rw [lastEight, List.length_append, List.length_singleton, List.drop_append_of_le_length (by omega)]
    congr 2
  rw [hdrop]
  split
  case isTrue h => rw [show l.length - 7 = 0 by omega, List.drop_zero]
  case isFalse => rfl

/-- Frame Capture after a pulse at the tick before, accepted in PRESENT. -/
def State.withPulse (s : State) : State := s.setFrame ((s.frame.confirm false).acceptPresent (s.tick - 1))

/-- Frame Capture after a pulse at the tick before, accepted in ABSENT. -/
def State.withReturn (s : State) : State := s.setFrame ((s.frame.confirm false).acceptAbsent (s.tick - 1))

theorem FrameCapture.accepts_iff {f : FrameCapture} {c l : Instant} (h : f.lastCapture = some l) :
    f.accepts c = true ↔ 4000 ≤ interval l c := by
  rw [FrameCapture.accepts, h, Option.all_some, decide_eq_true_eq]
  rfl

theorem State.confirmCandidate_accepted {s : State} {c : Instant} (hinput : s.frame.input = .present)
    (hlast : s.frame.lastCapture = some c) (hlong : 4000 ≤ interval c (s.tick - 1)) :
    s.confirmCandidate = s.withPulse.dropStaleHeld.requestBuild (s.tick - 1) := by
  have haccepts : (s.frame.confirm false).accepts (s.tick - 1) = true := (FrameCapture.accepts_iff hlast).mpr hlong
  show (match s.frame.input with | .absent => _ | .present => _) = _
  rw [hinput]
  exact if_pos haccepts

theorem State.confirmCandidate_ignored {s : State} {c : Instant} (hinput : s.frame.input = .present)
    (hlast : s.frame.lastCapture = some c) (hshort : interval c (s.tick - 1) < 4000) :
    s.confirmCandidate = s.setFrame (s.frame.confirm false) := by
  have haccepts : ¬ (s.frame.confirm false).accepts (s.tick - 1) = true := fun h =>
    absurd ((FrameCapture.accepts_iff (f := s.frame.confirm false) hlast).mp h) (by omega)
  show (match s.frame.input with | .absent => _ | .present => _) = _
  rw [hinput]
  exact if_neg haccepts

theorem State.confirmCandidate_returned {s : State} (hinput : s.frame.input = .absent) :
    s.confirmCandidate = ((s.withReturn.dropStaleHeld).post .frameReturned s.own (s.frame.counter + 1)
      (s.tick - 1)).requestBuild (s.tick - 1) := by
  have hkept : s.withReturn.dropStaleHeld.own = s.own ∧
      s.withReturn.dropStaleHeld.frame.counter = s.frame.counter + 1 := by
    rw [State.dropStaleHeld_eq]
    exact ⟨rfl, rfl⟩
  show (match s.frame.input with | .absent => _ | .present => _) = _
  rw [hinput, ← hkept.1, ← hkept.2]
  rfl

/-- CANDIDATE_PULSE at an input that samples and reads high. -/
theorem exec_candidatePulse {s : State} (hsampling : s.frame.sampling = true) (hlevel : s.frame.level = some true) :
    exec .candidatePulse s = done s s.confirmCandidate := by
  simp only [exec, execCandidatePulse, hsampling, hlevel, and_self, if_true]

/-- A candidate changes nothing at the Transmitter and keeps the own race state. -/
theorem done_confirmCandidate {s : State} (hstands : s.currentStands = true) :
    done s s.confirmCandidate = .next s.confirmCandidate := by
  have hkept : s.confirmCandidate.tx = s.tx ∧ s.confirmCandidate.race = s.race := by simp
  exact done_same hstands hkept.1 (congrArg Sequencer.own hkept.2)

/-- What a pulse accepted in PRESENT writes (R7). -/
theorem State.confirmCandidate_accepted_eq {s : State} {c : Instant} (hinput : s.frame.input = .present)
    (hlast : s.frame.lastCapture = some c) (hlong : 4000 ≤ interval c (s.tick - 1)) :
    s.confirmCandidate = { s with
      frame := { s.frame with
        level := some false
        newest := some false
        previous := some false
        counter := s.frame.counter + 1
        history :=
          (if s.frame.history.length < 8 then s.frame.history
            else s.frame.history.drop (s.frame.history.length - 7)) ++ [⟨s.frame.counter + 1, s.tick - 1⟩]
        period := s.frame.history.getLast?.map fun e => s.tick - 1 - e.capture
        absentTimer := some (s.tick - 1 + 100000)
        lastCapture := some (s.tick - 1) }
      peers := s.confirmCandidate.peers, image := s.confirmCandidate.image } := by
  rw [State.confirmCandidate_accepted hinput hlast hlong, State.requestBuild_eq, State.dropStaleHeld_eq,
    ← lastEight_concat]
  rfl

theorem State.frame_confirmCandidate_accepted {s : State} {c : Instant} (hinput : s.frame.input = .present)
    (hlast : s.frame.lastCapture = some c) (hlong : 4000 ≤ interval c (s.tick - 1)) :
    s.confirmCandidate.frame = (s.frame.confirm false).acceptPresent (s.tick - 1) := by
  rw [State.confirmCandidate_accepted hinput hlast hlong, State.requestBuild_eq, State.dropStaleHeld_eq]
  rfl

/-- The peers after a pulse: the own entry's held frame apart, they stay. -/
theorem State.peers_confirmCandidate_accepted {s : State} {c : Instant} (hinput : s.frame.input = .present)
    (hlast : s.frame.lastCapture = some c) (hlong : 4000 ≤ interval c (s.tick - 1)) :
    s.confirmCandidate.peers = s.withPulse.dropStaleHeld.peers := by
  rw [State.confirmCandidate_accepted hinput hlast hlong]
  simp

/-- A pulse whose instant is that of the frame-absent expiry has a period of 100,000 µs, and the expiry is put off
(R11). -/
theorem exec_candidatePulse_at_expiry {s : State} {c : Instant} {e : HistoryEntry}
    (hsampling : s.frame.sampling = true) (hlevel : s.frame.level = some true) (hinput : s.frame.input = .present)
    (hlast : s.frame.lastCapture = some c) (htick : s.tick = c + 100001) (hnewest : s.frame.history.getLast? = some e)
    (hcapture : e.capture = c) :
    ∃ t, exec .candidatePulse s = .next t ∧ t.frame.period = some 100000 ∧ t.frame.input = .present ∧
      t.frame.absentTimer = some (s.tick - 1 + 100000) ∧ Instr.frameAbsentTimerExpiry ∉ t.dueEvents := by
  have hlong : 4000 ≤ interval c (s.tick - 1) := by
    rw [htick, interval, show c + 100001 - 1 - c = 100000 by bv_omega]
    decide
  have hframe := State.frame_confirmCandidate_accepted hinput hlast hlong
  have hkept : (settle s s.confirmCandidate).frame = (s.frame.confirm false).acceptPresent (s.tick - 1) ∧
      (settle s s.confirmCandidate).tick = s.tick := by
    refine ⟨?_, by simp⟩
    rw [← hframe]
    simp
  obtain ⟨hframe, htick'⟩ := hkept
  refine ⟨_, exec_candidatePulse hsampling hlevel, ?_, ?_, ?_, fun hmem => ?_⟩
  · rw [hframe]
    show s.frame.history.getLast?.map (fun e => s.tick - 1 - e.capture) = _
    rw [hnewest, Option.map_some, hcapture, htick, show c + 100001 - 1 - c = 100000 by bv_omega]
  · rw [hframe]
    exact hinput
  · rw [hframe]
    rfl
  · obtain ⟨⟨i, htimer, hreached⟩, -⟩ := (State.mem_dueEvents _ .frameAbsentTimerExpiry).mp hmem
    rw [hframe] at htimer
    obtain rfl : s.tick - 1 + 100000 = i := Option.some.inj htimer
    rw [htick', interval, show s.tick - 1 + 100000 - s.tick = 99999 by bv_omega] at hreached
    exact absurd hreached (by decide)

/-- The frame-absent expiry at its own instant, with a first low sample taken: due where the next sample is high, and
only possible where it is low (R3, R4, R11). -/
theorem absentExpiry_at_first_low {s : State} {c : Instant} (hsampling : s.frame.sampling = true)
    (hlevel : s.frame.level = some true) (hinput : s.frame.input = .present)
    (htimer : s.frame.absentTimer = some (c + 100000)) (htick : s.tick = c + 100000)
    (hnewest : s.frame.newest = some false) (hprevious : s.frame.previous = some true) :
    (s.frame.coming = false →
      Instr.frameAbsentTimerExpiry ∉ s.dueEvents ∧ Instr.frameAbsentTimerExpiry ∈ s.possibleEvents) ∧
    (s.frame.coming = true →
      Instr.frameAbsentTimerExpiry ∈ s.dueEvents ∧ Instr.frameAbsentTimerExpiry ∉ s.possibleEvents) := by
  have hexpired : expired s s.frame.absentTimer :=
    ⟨_, htimer, by rw [htick, interval, BitVec.sub_self]; decide⟩
  have hforming : forming s ↔ s.frame.coming = false := by
    simp [forming, hsampling, hinput, hlevel, hnewest, hprevious, htimer, htick]
  rw [State.mem_dueEvents, State.mem_possibleEvents]
  simp only [comesDue, mayCome, hforming]
  exact ⟨fun h => ⟨fun hdue => hdue.2 h, hexpired, h⟩,
    fun h => ⟨⟨hexpired, by rw [h]; decide⟩, fun hpossible => absurd hpossible.2 (by rw [h]; decide)⟩⟩

/-- Settles O11: a candidate ignored, accepted, accepted after an absence, and at the instant of the frame-absent
expiry. -/
theorem candidatePulseAccepted : Obligations.CandidatePulseAccepted := by
  refine ⟨fun s c hstands hsampling hlevel hinput hlast => ⟨fun hshort => ?_, fun hlong => ?_⟩,
    fun s hstands hsampling hlevel hinput => ?_, fun s c hsampling hlevel hinput hlast htimer => ⟨?_, ?_⟩⟩
  · rw [exec_candidatePulse hsampling hlevel, done_confirmCandidate hstands,
      State.confirmCandidate_ignored hinput hlast hshort]
    rfl
  · have hpeers := State.peers_confirmCandidate_accepted hinput hlast hlong
    have hframe := State.frame_confirmCandidate_accepted hinput hlast hlong
    have hentry : ∀ p, s.confirmCandidate.entry p = s.withPulse.dropStaleHeld.entry p := fun p =>
      congrArg (fun t => t.entries.get p) hpeers
    refine ⟨_, (exec_candidatePulse hsampling hlevel).trans (done_confirmCandidate hstands),
      State.confirmCandidate_accepted_eq hinput hlast hlong, ?_, fun p hp => ?_, ?_⟩
    · rw [hpeers]
      exact State.peers_dropStaleHeld _
    · exact (hentry p).trans (State.entry_dropStaleHeld_other _ hp)
    · have hlookup : ∀ n, s.confirmCandidate.lookupFrame n = s.withPulse.lookupFrame n := fun n =>
        congrArg (fun f => (f.history.find? fun e => decide (e.number = n)).map HistoryEntry.capture) hframe
      simp only [hlookup]
      exact (hentry s.own).trans (State.entry_dropStaleHeld_own s.withPulse)
  · have heq := State.confirmCandidate_returned hinput
    refine ⟨_, (exec_candidatePulse hsampling hlevel).trans (done_confirmCandidate hstands), ?_, ?_, fun p hp => ?_,
      ?_, ?_⟩
    all_goals rw [heq, State.requestBuild_eq]
    · rw [State.dropStaleHeld_eq]
      rfl
    · exact State.peers_dropStaleHeld _
    · exact State.entry_dropStaleHeld_other s.withReturn hp
    · rw [State.dropStaleHeld_eq]
      rfl
    · rw [State.dropStaleHeld_eq]
      rfl
  · exact fun htick hnewest hprevious => absentExpiry_at_first_low hsampling hlevel hinput htimer htick hnewest hprevious
  · intro e htick hnewest hcapture
    refine ⟨(s.mem_dueEvents .frameAbsentTimerExpiry).mpr ⟨⟨_, htimer, ?_⟩, fun hforming => ?_⟩,
      exec_candidatePulse_at_expiry hsampling hlevel hinput hlast htick hnewest hcapture⟩
    · rw [htick, interval, show c + 100000 - (c + 100001) = -1 by bv_omega]
      decide
    · obtain ⟨-, -, -, -, -, -, hnow⟩ := hforming
      rw [htimer, htick] at hnow
      have := Option.some.inj hnow
      bv_omega

/-! ## The image a pulse starts (R137, R141) -/

/-- An accepted pulse requests a build of a part that differs from the one before it in Frame Capture, the own entry's held
frame and the Event Queue alone. -/
theorem State.confirmCandidate_requests {s : State}
    (h : s.frame.input = .absent ∨
      ∃ c, s.frame.input = .present ∧ s.frame.lastCapture = some c ∧ 4000 ≤ interval c (s.tick - 1)) :
    ∃ u : State, s.confirmCandidate = u.requestBuild (s.tick - 1) ∧ u.image = s.image ∧ u.race = s.race ∧ u.tick = s.tick ∧
      u.frame.counter = s.frame.counter + 1 := by
  rcases h with habsent | ⟨c, hinput, hlast, hlong⟩
  · refine ⟨_, State.confirmCandidate_returned habsent, ?_⟩
    rw [State.dropStaleHeld_eq]
    exact ⟨rfl, rfl, rfl, rfl⟩
  · refine ⟨_, State.confirmCandidate_accepted hinput hlast hlong, ?_⟩
    rw [State.dropStaleHeld_eq]
    exact ⟨rfl, rfl, rfl, rfl⟩

/-- In a lobby state the header's race fields are 0. -/
theorem State.startImage_lobby {s : State} {n : Word} {f : Instant}
    (h : s.race.own = .attract ∨ s.race.own = .entered) :
    (s.startImage n f).mask = 0 ∧ (s.startImage n f).raceTime = 0 ∧ (s.startImage n f).timeToGreen = 0 := by
  rcases h with h | h
  all_goals simp [State.startImage, State.headerMask, State.raceTimeAt, State.timeToGreen, h, OwnState.isRace]

/-- The header's race fields with a race record held. -/
theorem State.startImage_race {s : State} {n : Word} {f : Instant} {r : RaceRecord} (h : s.race.record = some r) :
    (s.startImage n f).mask = (if s.race.own.isRace then r.mask else 0) ∧
      (s.startImage n f).raceTime = (match s.race.own with
        | .racing => f - r.green
        | .finished => f - r.green
        | .results => if s.race.ceilingMark then 2000000000 else f - r.green
        | .offline | .attract | .entered | .countdown => 0) ∧
      (s.startImage n f).timeToGreen = (if s.race.own = .countdown ∧ 0 < interval f r.green then
        BitVec.ofNat 16 ((interval f r.green).toNat / 1000) else 0) := by
  have horigin : s.origin = r.green := by rw [State.origin, h]; rfl
  refine ⟨?_, ?_, ?_⟩
  · simp only [State.startImage, State.headerMask, h]
    rfl
  · show s.raceTimeAt f = _
    unfold State.raceTimeAt
    rw [horigin]
    cases s.race.own <;> rfl
  · show s.timeToGreen f = _
    unfold State.timeToGreen
    rw [horigin]
    cases s.race.own
    case countdown =>
      show (if interval f r.green ≤ 0 then 0 else word ((interval f r.green).toNat / 1000)) = _
      split
      case isTrue hpast => exact (if_neg fun h => absurd h.2 (Int.not_lt.mpr hpast)).symm
      case isFalse hpast => exact (if_pos ⟨rfl, Int.not_le.mp hpast⟩).symm
    all_goals exact (if_neg fun h => OwnState.noConfusion h.1).symm

/-- Settles O12: the image an accepted pulse starts, and the bank it starts in. -/
theorem acceptedPulseStartsBuild : Obligations.AcceptedPulseStartsBuild := by
  intro s hsampling hlevel haccepted
  obtain ⟨u, hu, himage, hrace, htick, hcounter⟩ := State.confirmCandidate_requests haccepted
  have hkept : (settle s s.confirmCandidate).image = (u.requestBuild (s.tick - 1)).image ∧
      (settle s s.confirmCandidate).frame = u.frame := by
    rw [hu]
    constructor <;> simp
  refine ⟨_, exec_candidatePulse hsampling hlevel, ?_⟩
  rw [hkept.1, hkept.2]
  refine ⟨fun hown => ?_, fun hown hbuild => ⟨u.startImage (s.frame.counter + 1) (s.tick - 1), fun h0 => ?_,
    fun h0 h1 => ?_, fun h0 h1 h2 => ?_, rfl, rfl, rfl, congrArg Sequencer.own hrace, fun h => ?_, fun r hr => ?_⟩⟩
  · rw [State.image_requestBuild_offline _ (by rw [hrace]; exact hown), himage]
  · rw [State.image_requestBuild (by rw [hrace]; exact hown) (by rw [himage]; exact hbuild)
      (ImageBuilder.fill_bank0 _ (by rw [himage]; exact h0)), himage, htick, hcounter]
  · rw [State.image_requestBuild (by rw [hrace]; exact hown) (by rw [himage]; exact hbuild)
      (ImageBuilder.fill_bank1 _ (by rw [himage]; exact h0) (by rw [himage]; exact h1)), himage, htick, hcounter]
  · rw [State.image_requestBuild (by rw [hrace]; exact hown) (by rw [himage]; exact hbuild)
      (ImageBuilder.fill_bank2 _ (by rw [himage]; exact h0) (by rw [himage]; exact h1) (by rw [himage]; exact h2)),
      himage, htick, hcounter]
  · exact State.startImage_lobby (by rw [hrace]; exact h)
  · rw [← hrace]
    exact State.startImage_race (by rw [hrace]; exact hr)

/-! ## The frame-absent expiry and confirmed levels (R4, R11, R172) -/

/-- The part after the frame input is lost, before the event is posted. -/
def State.withLoss (s : State) : State := (s.setFrame s.frame.goAbsent).dropStaleHeld

theorem exec_frameAbsentTimerExpiry {s : State} {i : Instant} (hstands : s.currentStands = true)
    (htimer : s.frame.absentTimer = some i) (hreached : reached s.tick i = true) :
    exec .frameAbsentTimerExpiry s = .next (s.withLoss.post .frameLost s.own s.frame.counter i) := by
  have hdue : Timer.due s.tick (some i) = true := hreached
  simp only [exec, execFrameAbsentTimerExpiry, htimer, hdue, if_true]
  refine done_same hstands ?_ ?_
  all_goals
    rw [State.dropStaleHeld_eq]
    rfl

/-- A level confirmed that is no candidate. -/
theorem exec_frameInputLevelConfirmed {s : State} {high : Bool} (hsampling : s.frame.sampling = true)
    (hlevel : s.frame.level = none ∨ (s.frame.level = some false ∧ high = true)) :
    exec (.frameInputLevelConfirmed high) s = done s (s.setFrame (s.frame.confirm high)) := by
  rcases hlevel with hlevel | ⟨hlevel, rfl⟩
  all_goals simp only [exec, execFrameInputLevelConfirmed, hsampling, hlevel, if_true]

/-- Settles O13: the input lost with its event, and the levels confirmed. -/
theorem frameInputLostAndConfirmed : Obligations.FrameInputLostAndConfirmed := by
  refine ⟨fun s i hstands htimer hreached => ?_, fun s high hstands hsampling => ⟨fun hlevel => ?_, fun hlevel => ?_,
    fun hlevel => ?_⟩⟩
  · refine ⟨_, exec_frameAbsentTimerExpiry hstands htimer hreached, ?_, ?_, fun p hp => ?_, ?_, ?_, ?_⟩
    · rw [State.withLoss, State.dropStaleHeld_eq]
      rfl
    · exact State.peers_dropStaleHeld _
    · exact State.entry_dropStaleHeld_other (s.setFrame s.frame.goAbsent) hp
    · have hfilter : ∀ o : Option Word, (o.filter fun n => ((s.setFrame s.frame.goAbsent).lookupFrame n).isSome) = none :=
        fun o => by cases o <;> rfl
      refine (State.entry_dropStaleHeld_own (s.setFrame s.frame.goAbsent)).trans ?_
      simp only [hfilter]
      rfl
    · rw [State.withLoss, State.dropStaleHeld_eq]
      rfl
    · rw [State.withLoss, State.dropStaleHeld_eq]
      rfl
  · exact (exec_frameInputLevelConfirmed hsampling (.inl hlevel)).trans (done_same hstands rfl rfl)
  · exact (exec_frameInputLevelConfirmed hsampling (.inr ⟨hlevel, rfl⟩)).trans (done_same hstands rfl rfl)
  · simp only [exec, execFrameInputLevelConfirmed, execCandidatePulse, hsampling, hlevel, if_true, and_self]

end Sys2Proof.Machine
end

section
/-! PROOFS. What follows an event: the departure of a frame at a line that is open, or nothing (R34, R40 to R42). -/

namespace Sys2Proof.Machine

open Sys2Proof.Claims

/-! ## What a departing frame carries (R22, R26, R29 to R33, R42, R115) -/

theorem Source.kindCode_payload (s : State) (x : Source) : frameCode (s.payload x) = sourceCode x := by
  cases x
  case call =>
    show frameCode (if s.race.own = .entered then _ else _) = 1
    split <;> rfl
  all_goals rfl

/-- The field of an own START, station by station, once a signature is held (R80). -/
theorem State.inField_eq {s : State} {l : LobbyInfo} (h : s.race.entry = some l) (p : Station) :
    s.inField p = (decide (p = s.own) ||
      (decide ((s.entry p).state = .entered) && decide ((s.entry p).lobby = some l))) := by
  unfold State.inField
  rw [h]
  cases (s.entry p).lobby <;> simp

/-- The own results record is in category DNF (R31). -/
theorem State.ownDnf_iff (s : State) :
    s.ownDnf = true ↔ s.race.own = .results ∧
      ∃ l r, s.race.results = some l ∧ r ∈ l ∧ r.station = s.own ∧ r.category = .dnf := by
  unfold State.ownDnf
  rw [Bool.and_eq_true, decide_eq_true_eq]
  refine and_congr_right fun _ => ?_
  cases s.race.results with
  | none => simp
  | some l => simp

/-- A sample age saturates (R26). -/
theorem sampleAge_eq (sample now : Instant) :
    ((now - sample).toNat < 16777215 → (sampleAge sample now).toNat = (now - sample).toNat) ∧
      (16777215 ≤ (now - sample).toNat → (sampleAge sample now).toNat = 16777215) := by
  unfold sampleAge
  refine ⟨fun h => ?_, fun h => ?_⟩
  · rw [if_pos h, BitVec.toNat_setWidth, Nat.mod_eq_of_lt (by omega)]
  · rw [if_neg (by omega)]
    rfl

/-- A CAR or a resend carries the slot's values. -/
theorem State.payload_car {s : State} {x : Source} {v : CarValues} (hx : x = .car ∨ x = .resend)
    (hv : s.tx.slot.state = .unsent v ∨ s.tx.slot.state = .sent v) : s.payload x = .car (s.carReport v) := by
  have hcontent : s.tx.slot.content.getD CarValues.zero = v := by
    unfold CarSlot.content
    rcases hv with hv | hv <;> rw [hv] <;> rfl
  rcases hx with rfl | rfl
  all_goals exact congrArg (fun w => Payload.car (s.carReport w)) hcontent

theorem CarSlot.isSent_eq {c : CarSlot} {v : CarValues} (hv : c.state = .unsent v ∨ c.state = .sent v) :
    c.isSent = decide (c.state = .sent v) := by
  unfold CarSlot.isSent
  rcases hv with hv | hv <;> simp [hv]

/-- The frame fixed at a departure carries what the manual lists for its source. -/
theorem State.carries_ownFrame (s : State) (x : Source) : carries s x (s.ownFrame x) := by
  refine ⟨rfl, rfl, rfl, Source.kindCode_payload s x, ?_, ?_, fun l hx hl => ?_, fun v hx hv => ?_⟩
  · rintro n rfl
    rfl
  · rintro rfl
    rfl
  · subst hx
    refine ⟨maskOf s.inField, ?_, fun p => (inMask_maskOf _ p).trans (s.inField_eq hl p)⟩
    show Payload.start ⟨_, _, s.race.entry.getD ⟨0, 0⟩⟩ = _
    rw [hl]
    rfl
  · obtain ⟨hshort, hlong⟩ := sampleAge_eq v.sample s.tick
    have hmark : ∀ m, s.race.ceilingMark = m →
        (s.carReport v).sampleAge = if m then 0xFFFFFF#24 else sampleAge v.sample s.tick := fun m hm => by rw [← hm]; rfl
    have hfinish : ∀ f m, s.tx.slot.finishMark = f → s.race.ceilingMark = m → (s.carReport v).finishAge =
        if f then some (if m then 0xFFFFFFFF#32 else finishAge s.ownCrossing s.tick) else none := fun f m hf hm => by
      rw [← hf, ← hm]
      rfl
    refine ⟨s.carReport v, State.payload_car hx hv, ?_, s.ownDnf_iff, fun h => hmark _ h, fun h hage => ?_,
      fun h hage => ?_, fun h => hfinish _ _ h rfl, fun h hceiling => hfinish _ _ h hceiling, fun h hceiling => ?_⟩
    · rw [← CarSlot.isSent_eq hv]
      rfl
    · rw [hmark _ h]
      exact hshort hage
    · rw [hmark _ h]
      exact hlong hage
    · rw [hfinish _ _ h hceiling]
      refine ⟨rfl, fun r n hr hn => ?_⟩
      have hcrossing : s.ownCrossing = r.green + n := by
        rw [State.ownCrossing, State.ownFinish, hr, hn]
        rfl
      show some (s.tick - s.ownCrossing) = _
      rw [hcrossing]

/-! ## A departure (R42) -/

/-- A departure begins a frame of the source as it is refreshed. -/
theorem begun_depart {s u : State} (c : Current) (htick : u.tick = s.tick) :
    begun s (u.depart c) (u.refreshSource c.source) :=
  ⟨_, rfl, rfl, rfl, htick, rfl, ⟨_, rfl, rfl⟩, u.carries_ownFrame _⟩

theorem State.current_of_idle {s : State} (h : s.workPending = false) : s.tx.current = none := by
  unfold State.workPending State.nextFrame at h
  split at h
  · simp at h
  · assumption

/-- An event that makes work pending at a line that is open is followed by a departure (R34, R40). -/
theorem settle_begins {s t : State} {x : Source} (hidle : idleOpen s) (hcurrent : t.tx.current = none)
    (hcandidate : t.candidate = some x) (hshort : x = .start → t.fieldShort = false)
    (hopportunity : t.tx.opportunity = s.tx.opportunity) (htick : t.tick = s.tick) (hphase : t.tx.phase = s.tx.phase) :
    settle s t = t.depart ⟨x, 0, 0⟩ := by
  obtain ⟨hwork, hopen, hready⟩ := hidle
  refine settle_departs hwork hcurrent hcandidate hshort ?_ (hphase.trans hready)
  rw [← hopen, State.lineOpen, State.lineOpen, hopportunity, htick]

/-- An event after which no frame may begin, or none is needed, is followed by nothing. -/
theorem settle_of_not_begin {s t : State} (hstands : t.currentStands = true)
    (h : ¬ (s.workPending = false ∧ t.workPending = true ∧ t.lineOpen = true ∧ t.tx.phase = .ready)) :
    settle s t = t := by
  unfold settle
  simp only [State.loseCurrent_of_stands hstands]
  exact if_neg h

/-- With work pending already, or at a line that is not open, nothing departs. -/
theorem settle_of_not_idleOpen {s t : State} (h : ¬ idleOpen s) (hstands : t.currentStands = true)
    (hopportunity : t.tx.opportunity = s.tx.opportunity) (htick : t.tick = s.tick) (hphase : t.tx.phase = s.tx.phase) :
    settle s t = t := by
  refine settle_of_not_begin hstands ?_
  rintro ⟨hwork, -, hopen, hready⟩
  refine h ⟨hwork, ?_, hphase.symm.trans hready⟩
  rwa [State.lineOpen, ← hopportunity, ← htick]

/-- What follows an event changes the Transmitter, the own proposal and the Event Queue alone. -/
theorem settle_eq (s t : State) :
    settle s t = { t with
      tx := (settle s t).tx, race := (settle s t).race, events := (settle s t).events } := by
  obtain ⟨htick, hstraps, hloader, hframe, hrx, hpeers, himage, hlamp, hcmd, hfree, hpending, -⟩ := settle_keeps s t
  cases hsettle : settle s t
  rw [hsettle] at htick hstraps hloader hframe hrx hpeers himage hlamp hcmd hfree hpending
  cases t
  dsimp only at *
  subst_vars
  rfl

/-- Where no START joins the queue, what follows an event changes the Transmitter alone. -/
theorem settle_eq_of_no_new_start {s t : State}
    (h : ControlFrame.start ∈ t.tx.queue → ControlFrame.start ∈ s.tx.queue) :
    settle s t = { t with tx := (settle s t).tx } := by
  obtain ⟨hrace, hevents, -⟩ := settle_no_new_start h
  rw [settle_eq, hrace, hevents]

/-! ## Work pending (R34, R37, R38, R41) -/

theorem CarSlot.isUnsent_iff {c : CarSlot} : c.isUnsent = true ↔ ∃ v, c.state = .unsent v := by
  unfold CarSlot.isUnsent
  cases c.state <;> simp

theorem CarSlot.isSent_iff {c : CarSlot} : c.isSent = true ↔ ∃ v, c.state = .sent v := by
  unfold CarSlot.isSent
  cases c.state <;> simp

theorem OwnState.resends_iff {o : OwnState} : o.resends = true ↔ o = .finished ∨ o = .results := by
  cases o <;> simp [OwnState.resends]

theorem OwnState.isLobby_iff {o : OwnState} : o.isLobby = true ↔ o = .attract ∨ o = .entered := by
  cases o <;> simp [OwnState.isLobby]

theorem State.carEligible_iff {s : State} :
    s.carEligible = true ↔ (∃ v, s.tx.slot.state = .unsent v) ∧ s.tx.spacingTimer = none := by
  rw [State.carEligible, Bool.and_eq_true, CarSlot.isUnsent_iff, Option.isNone_iff_eq_none]

theorem State.resendEligible_iff {s : State} :
    s.resendEligible = true ↔ (s.race.own = .finished ∨ s.race.own = .results) ∧ (∃ v, s.tx.slot.state = .sent v) ∧
      s.tx.resendTimer = none := by
  rw [State.resendEligible, Bool.and_eq_true, Bool.and_eq_true, OwnState.resends_iff, CarSlot.isSent_iff,
    Option.isNone_iff_eq_none, and_assoc]

theorem State.callDue_iff {s : State} :
    s.callDue = true ↔ (s.race.own = .attract ∨ s.race.own = .entered) ∧ s.tx.callTimer = none ∧
      s.tx.phase ≠ .stuck := by
  rw [State.callDue, Bool.and_eq_true, Bool.and_eq_true, OwnState.isLobby_iff, Option.isNone_iff_eq_none,
    decide_eq_true_eq, and_assoc]

theorem State.workPending_iff {s : State} :
    s.workPending = true ↔ s.tx.current ≠ none ∨ s.tx.queue ≠ [] ∨
      (s.race.own ≠ .offline ∧ (s.carEligible = true ∨ s.resendEligible = true ∨ s.callDue = true)) := by
  unfold State.workPending State.nextFrame State.candidate
  cases s.tx.current with
  | some c => simp
  | none =>
    cases s.tx.queue with
    | cons c rest => simp
    | nil =>
      by_cases hown : s.race.own = .offline
      · simp [hown]
      · cases s.carEligible <;> cases s.resendEligible <;> cases s.callDue <;> simp [hown]

/-- Outside OFFLINE a part without work has no candidate of the arbiter. -/
theorem State.not_eligible_of_idle {s : State} (h : s.workPending = false) (hown : s.race.own ≠ .offline) :
    s.carEligible = false ∧ s.resendEligible = false ∧ s.callDue = false := by
  have hnot := mt State.workPending_iff.mpr (by rw [h]; exact Bool.false_ne_true)
  refine ⟨?_, ?_, ?_⟩
  all_goals
    rw [← Bool.not_eq_true]
    intro heligible
    exact hnot (.inr (.inr ⟨hown, by simp [heligible]⟩))

/-! ## The arbiter's choice (R41) -/

theorem State.candidate_of_queue {s : State} {c : ControlFrame} {rest : List ControlFrame} (h : s.tx.queue = c :: rest) :
    s.candidate = some c.source := by
  rw [State.candidate, h]

/-- With an empty control queue outside OFFLINE, an UNSENT slot whose spacing has passed gives a CAR. -/
theorem State.candidate_car {s : State} {v : CarValues} (hqueue : s.tx.queue = []) (hown : s.race.own ≠ .offline)
    (hslot : s.tx.slot.state = .unsent v) (hspacing : s.tx.spacingTimer = none) : s.candidate = some .car := by
  simp [State.candidate, hqueue, hown, State.carEligible, CarSlot.isUnsent, hslot, hspacing]

/-- A SENT slot gives a resend in FINISHED and RESULTS, once the resend timer has run out. -/
theorem State.candidate_resend {s : State} {v : CarValues} (hqueue : s.tx.queue = [])
    (hown : s.race.own = .finished ∨ s.race.own = .results) (hslot : s.tx.slot.state = .sent v)
    (hresend : s.tx.resendTimer = none) : s.candidate = some .resend := by
  rcases hown with hown | hown
  all_goals
    simp [State.candidate, hqueue, hown, State.carEligible, CarSlot.isUnsent, hslot, State.resendEligible,
      OwnState.resends, CarSlot.isSent, hresend]

/-- In a lobby state a CALL is due while its cadence timer is stopped, unless a car is to be sent. -/
theorem State.candidate_call {s : State} (hqueue : s.tx.queue = []) (hown : s.race.own = .attract ∨ s.race.own = .entered)
    (hcar : s.carEligible = false) (hcall : s.tx.callTimer = none) (hphase : s.tx.phase ≠ .stuck) :
    s.candidate = some .call := by
  rcases hown with hown | hown
  all_goals
    simp [State.candidate, hqueue, hown, hcar, State.resendEligible, OwnState.resends, State.callDue, OwnState.isLobby,
      hcall, hphase]

/-- A departure with the source it was chosen for. -/
theorem begun_of_settle {s t : State} {x : Source} (hidle : idleOpen s) (hcurrent : t.tx.current = none)
    (hcandidate : t.candidate = some x) (hshort : x = .start → t.fieldShort = false)
    (hopportunity : t.tx.opportunity = s.tx.opportunity) (htick : t.tick = s.tick) (hphase : t.tx.phase = s.tx.phase)
    (hsource : t.refreshSource x = x) : begun s (settle s t) x := by
  rw [settle_begins hidle hcurrent hcandidate hshort hopportunity htick hphase]
  have hbegun := begun_depart (s := s) ⟨x, 0, 0⟩ htick
  rwa [hsource] at hbegun

/-! ## The control queue (R35) -/

theorem Transmitter.headIsCurrent_iff (s : State) : s.tx.headIsCurrent = true ↔ controlCurrent s := by
  unfold Transmitter.headIsCurrent controlCurrent
  cases s.tx.current with
  | none => simp
  | some c => cases hsource : c.source <;> simp [Source.isControl, sourceCode, hsource]

theorem ControlFrame.kindCode_eq (c : ControlFrame) : c.kindCode = if c = .start then 2 else 4 := by
  cases c <;> rfl

/-- A frame placed in a queue with room. -/
theorem State.placeControl_of_room {s : State} (h : s.tx.queue.length < 4) (c : ControlFrame) :
    s.placeControl c = { s with tx := { s.tx with queue := s.tx.queue ++ [c] } } := by
  rw [State.placeControl, State.makeRoom, if_pos h]
  rfl

/-- Room made in a full queue: the oldest frame that is not current leaves. -/
theorem State.makeRoom_of_overflows {s : State} {left : ControlFrame} {kept : List ControlFrame}
    (h : overflows s left kept) : s.makeRoom = s.overflowControl left kept := by
  obtain ⟨a, b, rest, hqueue, hlength, hcase⟩ := h
  have hfull : ¬ s.tx.queue.length < 4 := by simp [hqueue, hlength]
  rw [State.makeRoom, if_neg hfull]
  rcases hcase with ⟨hcurrent, rfl, rfl⟩ | ⟨hcurrent, rfl, rfl⟩
  · rw [(Transmitter.headIsCurrent_iff s).mpr hcurrent, hqueue]
  · rw [Bool.eq_false_iff.mpr fun htrue => hcurrent ((Transmitter.headIsCurrent_iff s).mp htrue), hqueue]

/-- A frame placed in a full queue (R35). -/
theorem State.placeControl_of_overflows {s : State} {left : ControlFrame} {kept : List ControlFrame}
    (h : overflows s left kept) (c : ControlFrame) :
    (s.placeControl c).tx = { s.tx with queue := kept ++ [c], drops := satInc s.tx.drops } ∧
      (s.placeControl c).events = { s.events with records := posted s [pushedOut s left] } ∧
      (s.placeControl c).race = { s.race with proposal := if left = .start then .none else s.race.proposal } := by
  have hevents : (s.overflowControl left kept).events = { s.events with records := posted s [pushedOut s left] } := by
    have hpushed : pushedOut s left = ⟨.txDropped, s.own, BitVec.ofNat 16 left.kindCode, s.tick⟩ := by
      rw [pushedOut, ControlFrame.kindCode_eq]
    rw [hpushed]
    unfold State.overflowControl
    dsimp only
    split <;> rfl
  rw [State.placeControl, State.makeRoom_of_overflows h]
  exact ⟨by simp, hevents, State.race_overflowControl s left kept⟩

/-- Placing a frame changes the Transmitter, the own proposal and the Event Queue alone. -/
theorem State.placeControl_eq (s : State) (c : ControlFrame) :
    s.placeControl c = { s with
      tx := (s.placeControl c).tx, race := (s.placeControl c).race, events := (s.placeControl c).events } := by
  unfold State.placeControl State.makeRoom State.overflowControl
  dsimp only
  repeat' split
  all_goals rfl

/-- A full queue is work pending. -/
theorem not_idleOpen_of_queue {s : State} (h : s.tx.queue ≠ []) : ¬ idleOpen s :=
  fun hidle => h (State.queue_of_idle hidle.1)

theorem not_idleOpen_of_overflows {s : State} {left : ControlFrame} {kept : List ControlFrame}
    (h : overflows s left kept) : ¬ idleOpen s := by
  obtain ⟨a, b, rest, hqueue, -⟩ := h
  exact not_idleOpen_of_queue (by rw [hqueue]; exact List.cons_ne_nil _ _)

/-! ## The field and the results list, by what they read -/

theorem State.length_field (s : State) : s.field.length = fieldCount s := by
  rw [State.field, ← List.countP_eq_length_filter]
  rfl

theorem State.fieldShort_iff {s : State} : s.fieldShort = true ↔ fieldCount s < s.settings.minField := by
  rw [State.fieldShort, State.length_field, decide_eq_true_eq]

/-- The results list reads the race record, the entries and the own laps alone. -/
theorem State.resultsFor_congr {s t : State} (hrecord : t.race.record = s.race.record)
    (hentry : ∀ p, t.entry p = s.entry p) (hown : t.own = s.own) (hcount : t.race.lapCount = s.race.lapCount)
    (hlist : t.race.lapList = s.race.lapList) (limit : Option (BitVec 32)) : t.resultsFor limit = s.resultsFor limit := by
  have hresult : t.resultRecord limit = s.resultRecord limit := by
    funext p
    simp only [State.resultRecord, State.category, hentry, hown, hcount, hlist]
  rw [State.resultsFor, State.resultsFor, State.participants, State.participants, hrecord, hresult]

end Sys2Proof.Machine
end

section
/-! PROOFS. The expiries of the Peer Table's and the Race Sequencer's timers (R58, R62, R68, R73, R81, R90, R94, R107 to
R110, R115). -/

namespace Sys2Proof.Machine

open Sys2Proof.Claims

/-! ## The quality window (R58) -/

/-- A window of sixteen that shifts by no more than its own length keeps what is left of it. -/
theorem shiftWindow_of_short {w : List Bool} {l n : Byte} (hw : w.length = 16) (h : (n - l - 1).toNat ≤ 15) :
    shiftWindow w (some l) n = w.drop ((n - l - 1).toNat + 1) ++ List.replicate (n - l - 1).toNat false ++ [true] := by
  have hdrop : (w ++ List.replicate (n - l - 1).toNat false ++ [true]).length - 16 = (n - l - 1).toNat + 1 := by
    simp only [List.length_append, List.length_replicate, List.length_singleton, hw]
    omega
  rw [shiftWindow]
  rw [hdrop, List.append_assoc, List.drop_append_of_le_length (by omega), List.append_assoc]

/-- A window that shifts by its length or more keeps nothing. -/
theorem shiftWindow_of_long {w : List Bool} {l n : Byte} (hw : w.length = 16) (h : 15 ≤ (n - l - 1).toNat) :
    shiftWindow w (some l) n = List.replicate 15 false ++ [true] := by
  have hdrop : (w ++ List.replicate (n - l - 1).toNat false ++ [true]).length - 16 =
      w.length + ((n - l - 1).toNat - 15) := by
    simp only [List.length_append, List.length_replicate, List.length_singleton, hw]
    omega
  rw [shiftWindow]
  rw [hdrop, List.append_assoc, List.drop_append, List.drop_eq_nil_of_le (Nat.le_add_right _ _), List.nil_append,
    Nat.add_sub_cancel_left, List.drop_append_of_le_length (by rw [List.length_replicate]; omega), List.drop_replicate,
    show (n - l - 1).toNat - ((n - l - 1).toNat - 15) = 15 by omega]

theorem length_shiftWindow {w : List Bool} (hw : w.length = 16) (l n : Byte) :
    (shiftWindow w (some l) n).length = 16 := by
  rw [shiftWindow]
  rw [List.length_drop, List.length_append, List.length_append, hw, List.length_replicate, List.length_singleton]
  omega

/-- Settles O37: the first frame of an entry, and the shift by the frames missed. -/
theorem qualityWindowShifts : Obligations.QualityWindowShifts := fun _ n =>
  ⟨rfl, fun l hw => ⟨length_shiftWindow hw l n, shiftWindow_of_short hw, shiftWindow_of_long hw⟩⟩

/-! ## The lobby timer (R81) -/

/-- The part with the lobby timer started again. -/
def State.withLobby (s : State) : State :=
  s.setRace { s.race with lobbyTimer := s.start (seconds s.settings.lobbyWindow) }

/-- LOBBY_TIMER_EXPIRY in ENTERED. -/
theorem exec_lobbyTimerExpiry {s : State} {i : Instant} (htimer : s.race.lobbyTimer = some i)
    (hreached : reached s.tick i = true) (hown : s.race.own = .entered) :
    exec .lobbyTimerExpiry s = done s (s.lobbyExpiry i) := by
  have hdue : Timer.due s.tick (some i) = true := hreached
  simp only [exec, execLobbyTimerExpiry, htimer, hdue, hown, if_true]
  rfl

theorem State.lobbyExpiry_of_pending {s : State} (i : Instant) (h : s.race.proposal = .pending) :
    s.lobbyExpiry i = s.withLobby := if_pos h

theorem State.lobbyExpiry_of_short {s : State} (i : Instant) (h : s.race.proposal = .none)
    (hshort : fieldCount s < s.settings.minField) :
    s.lobbyExpiry i = s.withLobby.post .lobbyExtended s.own (BitVec.ofNat 16 (fieldCount s)) i := by
  rw [← State.length_field]
  exact (if_neg (by rw [h]; exact nofun)).trans (if_pos (State.fieldShort_iff.mpr hshort))

theorem State.lobbyExpiry_of_field {s : State} (i : Instant) (h : s.race.proposal = .none)
    (hfield : s.settings.minField ≤ fieldCount s) :
    s.lobbyExpiry i = (s.withLobby.placeControl .start).setRace
      { (s.withLobby.placeControl .start).race with proposal := .pending } := by
  refine (if_neg (by rw [h]; exact nofun)).trans (if_neg fun hshort => ?_)
  exact absurd (State.fieldShort_iff.mp hshort) (Nat.not_lt.mpr hfield)

/-- Whether the current frame stands when the own START joins the queue: other sources do not change. -/
theorem State.currentStands_of_start_joined {s t : State} (hstands : s.currentStands = true)
    (hcurrent : t.tx.current = s.tx.current) (hphase : t.tx.phase = s.tx.phase) (hslot : t.tx.slot = s.tx.slot)
    (hown : t.race.own = s.race.own) (hstart : ControlFrame.start ∈ t.tx.queue) : t.currentStands = true := by
  unfold State.currentStands at hstands ⊢
  rw [hcurrent, hphase]
  cases hc : s.tx.current with
  | none => rfl
  | some c =>
    rw [hc] at hstands
    simp only [Bool.or_eq_true] at hstands ⊢
    refine hstands.imp_right fun hexists => ?_
    unfold State.sourceExists at hexists ⊢
    rw [hslot, hown]
    cases hsource : c.source
    case start => simp [hstart]
    case withdraw => rfl
    all_goals
      rw [hsource] at hexists
      exact hexists

/-- The part after the own START joins a queue with room. -/
def State.withStart (s : State) : State :=
  (s.withLobby.setTx { s.tx with queue := s.tx.queue ++ [.start] }).setRace
    { s.withLobby.race with proposal := .pending }

theorem State.lobbyExpiry_of_room {s : State} (i : Instant) (h : s.race.proposal = .none)
    (hfield : s.settings.minField ≤ fieldCount s) (hroom : s.tx.queue.length < 4) : s.lobbyExpiry i = s.withStart := by
  rw [State.lobbyExpiry_of_field i h hfield, State.placeControl_of_room (s := s.withLobby) hroom]
  rfl

theorem State.withStart_stands {s : State} (hstands : s.currentStands = true) : s.withStart.currentStands = true :=
  State.currentStands_of_start_joined hstands rfl rfl rfl rfl (List.mem_append_right _ List.mem_cons_self)

/-- The own START departs at once where the line is open and nothing waits before it. -/
theorem settle_withStart_of_idleOpen {s : State} (hidle : idleOpen s) (hfield : s.settings.minField ≤ fieldCount s) :
    settle s s.withStart = s.withStart.depart ⟨.start, 0, 0⟩ := by
  have hqueue := State.queue_of_idle hidle.1
  have hcurrent : s.withStart.tx.current = none := State.current_of_idle (s := s) hidle.1
  refine settle_begins hidle hcurrent (State.candidate_of_queue (c := .start) (rest := []) ?_)
    (fun _ => ?_) rfl rfl rfl
  · show s.tx.queue ++ [.start] = [.start]
    rw [hqueue, List.nil_append]
  · have hcount : s.withStart.fieldShort = s.fieldShort := rfl
    rw [hcount, ← Bool.not_eq_true, State.fieldShort_iff]
    omega

theorem settle_withStart_of_not_idleOpen {s : State} (hidle : ¬ idleOpen s) (hstands : s.currentStands = true) :
    settle s s.withStart = s.withStart :=
  settle_of_not_idleOpen hidle (State.withStart_stands hstands) rfl rfl rfl

/-- Settles O38: the four outcomes of the lobby timer, and a control frame placed in a queue with room and in a full one. -/
theorem lobbyExpiry : Obligations.LobbyExpiry := by
  refine ⟨fun s i hstands htimer hreached hown => ⟨fun hpending => ?_, fun hnone hshort => ?_,
    fun hnone hfield hroom => ?_, fun left kept hnone hfield hover => ?_⟩, fun s c => ⟨fun hroom => ?_, fun left kept hover => ?_⟩⟩
  · rw [exec_lobbyTimerExpiry htimer hreached hown, State.lobbyExpiry_of_pending i hpending]
    exact done_same hstands rfl rfl
  · have hexec := exec_lobbyTimerExpiry htimer hreached hown
    rw [State.lobbyExpiry_of_short i hnone hshort] at hexec
    exact ⟨_, hexec.trans (done_same hstands rfl rfl), rfl, rfl⟩
  · have hexec := exec_lobbyTimerExpiry htimer hreached hown
    rw [State.lobbyExpiry_of_room i hnone hfield hroom, done] at hexec
    refine ⟨_, hexec, ?_⟩
    by_cases hidle : idleOpen s
    · have hbegun := begun_depart (s := s) (u := s.withStart) ⟨.start, 0, 0⟩ rfl
      rw [settle_withStart_of_idleOpen hidle hfield]
      exact ⟨rfl, rfl, rfl, fun _ => hbegun, fun h => absurd hidle h⟩
    · rw [settle_withStart_of_not_idleOpen hidle hstands]
      exact ⟨rfl, rfl, rfl, fun h => absurd h hidle, fun _ => rfl⟩
  · obtain ⟨htx, hevents, hrace⟩ := State.placeControl_of_overflows (s := s.withLobby) hover .start
    have hexec := exec_lobbyTimerExpiry htimer hreached hown
    rw [State.lobbyExpiry_of_field i hnone hfield, State.placeControl_eq, htx, hevents, hrace, done,
      settle_of_not_idleOpen (not_idleOpen_of_overflows hover)] at hexec
    · exact ⟨_, hexec, rfl, rfl, rfl, rfl⟩
    · exact State.currentStands_of_start_joined hstands rfl rfl rfl rfl (List.mem_append_right _ List.mem_cons_self)
    · rfl
    · rfl
    · rfl
  · exact State.placeControl_of_room hroom c
  · obtain ⟨htx, hevents, hrace⟩ := State.placeControl_of_overflows hover c
    refine ⟨htx, congrArg EventQueue.records hevents, fun hleft => ?_, fun hleft => ?_⟩
    · rw [hrace, if_pos hleft]
    · rw [hrace, if_neg hleft]

end Sys2Proof.Machine
end

section
/-! PROOFS. Green, the peers' timers and the close of the race (R62, R68, R73, R90, R94, R107 to R110, R115). -/

namespace Sys2Proof.Machine

open Sys2Proof.Claims

/-! ## The lock, the results ceiling and green (R90, R94, R115) -/

theorem exec_lockTimerExpiry {s : State} {i : Instant} {r : RaceRecord} (hstands : s.currentStands = true)
    (htimer : s.race.lockTimer = some i) (hreached : reached s.tick i = true) (hrecord : s.race.record = some r) :
    exec .lockTimerExpiry s = .next { s with
      race := { s.race with lockTimer := none, record := some { r with locked := true } } } := by
  have hdue : Timer.due s.tick (some i) = true := hreached
  simp only [exec, execLockTimerExpiry, htimer, hdue, if_true, hrecord]
  exact done_same hstands rfl rfl

theorem exec_resultsCeilingTimerExpiry {s : State} {i : Instant} (hstands : s.currentStands = true)
    (htimer : s.race.ceilingTimer = some i) (hreached : reached s.tick i = true) (hown : s.race.own = .results) :
    exec .resultsCeilingTimerExpiry s = .next { s with
      race := { s.race with ceilingTimer := none, ceilingMark := true } } := by
  have hdue : Timer.due s.tick (some i) = true := hreached
  have hmark : (s.race.ceilingMark || decide (s.race.own = .results)) = true := by
    rw [decide_eq_true hown, Bool.or_true]
  have hexec : exec .resultsCeilingTimerExpiry s = done s (s.setRace { s.race with
      ceilingTimer := none, ceilingMark := s.race.ceilingMark || decide (s.race.own = .results) }) := by
    simp only [exec, execResultsCeilingTimerExpiry, htimer, hdue, if_true]
  rw [hexec, hmark]
  exact done_same hstands rfl rfl

theorem exec_greenTimerExpiry {s : State} {i : Instant} {r : RaceRecord} (htimer : s.race.greenTimer = some i)
    (hreached : reached s.tick i = true) (hown : s.race.own = .countdown) (hrecord : s.race.record = some r) :
    exec .greenTimerExpiry s = done s (s.goGreen r) := by
  have hdue : Timer.due s.tick (some i) = true := hreached
  simp only [exec, execGreenTimerExpiry, htimer, hdue, if_true, hown, hrecord]

/-- The entries at green (R65, R94). -/
theorem State.entry_goGreen (s : State) (r : RaceRecord) (p : Station) :
    (s.goGreen r).entry p =
      if p = s.own then s.entry p else (s.entry p).atGreen (s.start (millis s.settings.lostTimeout)) :=
  (s.setOwn .racing).entry_mapEntries
    (fun p e => if p = s.own then e else e.atGreen (s.start (millis s.settings.lostTimeout))) p

theorem Entry.atGreen_of_participant {e : Entry} (timer : Timer) (h : e.state = .grid ∨ e.state = .racing) :
    e.atGreen timer = { e with state := .racing, lostTimer := timer } := by
  unfold Entry.atGreen
  rcases h with h | h <;> rw [h]

theorem Entry.atGreen_of_other {e : Entry} (timer : Timer) (h : e.state ≠ .grid ∧ e.state ≠ .racing) :
    e.atGreen timer = e := by
  unfold Entry.atGreen
  split <;> simp_all

/-- Settles O39: the lock, the results ceiling, and green with the entries that start to race. -/
theorem lockCeilingAndGreenExpiry : Obligations.LockCeilingAndGreenExpiry := by
  refine ⟨fun s i r hstands hreached => ⟨fun htimer hrecord => exec_lockTimerExpiry hstands htimer hreached hrecord,
    fun htimer hown => exec_resultsCeilingTimerExpiry hstands htimer hreached hown⟩,
    fun s i r htimer hreached hown hrecord => ?_⟩
  have hqueue : (s.goGreen r).tx.queue = s.tx.queue := by rw [State.tx_goGreen]
  refine ⟨_, exec_greenTimerExpiry htimer hreached hown hrecord, ?_⟩
  rw [settle_eq_of_no_new_start fun h => hqueue ▸ h]
  refine ⟨rfl, State.race_goGreen s r, fun p hp hstate => ?_, fun p hp => ?_, rfl⟩
  · refine (State.entry_goGreen s r p).trans ?_
    rw [if_neg hp, Entry.atGreen_of_participant _ hstate]
    rfl
  · refine (State.entry_goGreen s r p).trans ?_
    by_cases hown : p = s.own
    · rw [if_pos hown]
    · rw [if_neg hown, Entry.atGreen_of_other _ (hp.resolve_left hown)]

/-! ## The close of the race (R107 to R110) -/

/-- The close that a timer or all-done brings, without RACE_EXPIRED. -/
theorem State.close_eq (s : State) (limit : Option (BitVec 32)) :
    s.close limit false = { s with
      tx := { s.tx with callTimer := none }
      race := { s.race with
        own := .results, graceTimer := none, limitTimer := none, ceilingTimer := some (s.origin + 2000000000)
        results := some (s.resultsFor limit) }
      events := { s.events with records := posted s [finalRecord s (s.resultsFor limit)] } } := rfl

/-- The close by the race limit: RACE_EXPIRED comes first. -/
theorem State.close_expired_eq (s : State) (limit : Option (BitVec 32)) :
    s.close limit true = { s with
      tx := { s.tx with callTimer := none }
      race := { s.race with
        own := .results, graceTimer := none, limitTimer := none, ceilingTimer := some (s.origin + 2000000000)
        results := some (s.resultsFor limit) }
      events := { s.events with
        records := posted s [⟨.raceExpired, s.own,
          BitVec.ofNat 16 ((s.resultsFor limit).countP fun x => decide (x.category = .finished)), s.tick⟩,
          finalRecord s (s.resultsFor limit)] } } := rfl

theorem State.origin_eq {s : State} {r : RaceRecord} (h : s.race.record = some r) : s.origin = r.green := by
  rw [State.origin, h]
  rfl

theorem OwnState.isRunning_iff {o : OwnState} : o.isRunning = true ↔ o = .racing ∨ o = .finished := by
  cases o <;> simp [OwnState.isRunning]

/-- A part that has closed the race in an open line's idle state sends its SENT car again. -/
theorem begun_resend_of_results {s t : State} {v : CarValues} (hidle : idleOpen s) (hslot : s.tx.slot.state = .sent v)
    (hresend : s.tx.resendTimer = none) (htx : t.tx = { s.tx with callTimer := none }) (htick : t.tick = s.tick)
    (hown : t.race.own = .results) : begun s (settle s t) .resend := by
  have hslot' : t.tx.slot.state = .sent v := by rw [htx]; exact hslot
  refine begun_of_settle hidle ?_ (State.candidate_resend (v := v) ?_ (.inr hown) hslot' ?_) nofun ?_ htick ?_ ?_
  · rw [htx]
    exact State.current_of_idle hidle.1
  · rw [htx]
    exact State.queue_of_idle hidle.1
  · rw [htx]
    exact hresend
  · rw [htx]
  · rw [htx]
  · exact if_pos (by rw [CarSlot.isSent, hslot'])

theorem exec_graceCloseTimerExpiry {s : State} {i : Instant} {e : BitVec 32} (htimer : s.race.graceTimer = some i)
    (hreached : reached s.tick i = true) (hown : s.race.own = .racing ∨ s.race.own = .finished)
    (hearliest : s.race.earliest = some e) :
    exec .graceCloseTimerExpiry s =
      done s (s.close (some (e + BitVec.ofNat 32 (s.settings.finishGrace * 1000000))) false) := by
  have hdue : Timer.due s.tick (some i) = true := hreached
  have hend : s.graceEnd = e + BitVec.ofNat 32 (s.settings.finishGrace * 1000000) := by
    rw [State.graceEnd, hearliest]
    rfl
  simp only [exec, execGraceCloseTimerExpiry, htimer, hdue, OwnState.isRunning_iff.mpr hown, if_true, hend]

theorem exec_limitCloseTimerExpiry {s : State} {i : Instant} (htimer : s.race.limitTimer = some i)
    (hreached : reached s.tick i = true) (hown : s.race.own = .racing ∨ s.race.own = .finished) :
    exec .limitCloseTimerExpiry s =
      done s (s.close (some (BitVec.ofNat 32 (s.settings.raceLimit * 1000000))) true) := by
  have hdue : Timer.due s.tick (some i) = true := hreached
  simp only [exec, execLimitCloseTimerExpiry, htimer, hdue, OwnState.isRunning_iff.mpr hown, if_true]
  rfl

/-- Settles O40: the close by the grace timer and by the limit timer. -/
theorem timerClosesRace : Obligations.TimerClosesRace := by
  refine ⟨rankIs_rankOf, fun s i r hreached hown hrecord => ⟨fun e htimer hearliest => ?_, fun htimer => ?_⟩⟩
  · refine ⟨_, s.resultsFor (some (e + BitVec.ofNat 32 (s.settings.finishGrace * 1000000))),
      exec_graceCloseTimerExpiry htimer hreached hown hearliest, ?_⟩
    have hqueue : (s.close (some (e + BitVec.ofNat 32 (s.settings.finishGrace * 1000000))) false).tx.queue = s.tx.queue :=
      rfl
    have heq := settle_eq_of_no_new_start (s := s) fun h => hqueue ▸ h
    refine ⟨by rw [heq]; rfl, ?_, rfl, by rw [heq]; rfl, fun v hidle hslot hresend => ?_⟩
    · rw [heq, State.close_eq, State.origin_eq hrecord]
    · exact begun_resend_of_results hidle hslot hresend rfl rfl rfl
  · refine ⟨_, s.resultsFor (some (BitVec.ofNat 32 (s.settings.raceLimit * 1000000))),
      exec_limitCloseTimerExpiry htimer hreached hown, ?_⟩
    have hqueue : (s.close (some (BitVec.ofNat 32 (s.settings.raceLimit * 1000000))) true).tx.queue = s.tx.queue := rfl
    have heq := settle_eq_of_no_new_start (s := s) fun h => hqueue ▸ h
    refine ⟨by rw [heq]; rfl, ?_, rfl, by rw [heq]; rfl, fun v hidle hslot hresend => ?_⟩
    · rw [heq, State.close_expired_eq, State.origin_eq hrecord]
    · exact begun_resend_of_results hidle hslot hresend rfl rfl rfl

/-! ## All done (R109) -/

theorem Entry.isDone_iff {e : Entry} : e.state.isDone = true ↔ isDone e := by
  unfold isDone
  cases e.state <;> simp [EntryState.isDone]

/-- The all-done condition, over the participants that a race record names. -/
theorem State.allDone_iff {s : State} {r : RaceRecord} (hrecord : s.race.record = some r) :
    s.allDone = true ↔
      s.race.own = .finished ∧ ∀ q, inMask r.mask q = true → q ≠ s.own → isDone (s.entry q) := by
  rw [State.allDone, State.participants_eq hrecord]
  simp only [Bool.and_eq_true, decide_eq_true_eq, List.all_eq_true, List.mem_filter, mem_stations, true_and,
    Bool.or_eq_true, Entry.isDone_iff]
  exact and_congr_right fun _ => forall_congr' fun q => imp_congr_right fun _ => Decidable.or_iff_not_imp_left

theorem State.closeIfAllDone_of_not {s : State} (h : s.allDone ≠ true) : s.closeIfAllDone = s := if_neg h

theorem State.closeIfAllDone_of_all {s : State} (h : s.allDone = true) : s.closeIfAllDone = s.close none false :=
  if_pos h

/-! ## The peers' timers (R62, R68, R73) -/

theorem EntryState.word_code (e : EntryState) : word e.code = BitVec.ofNat 16 (peerCode e) := by
  rw [EntryState.code_eq, word]

/-- A peer that is gone from the lobby (R62). -/
theorem exec_presenceTimerExpiry {s : State} {p : Station} {i : Instant} (hstands : s.currentStands = true)
    (htimer : (s.entry p).presenceTimer = some i) (hreached : reached s.tick i = true)
    (hstate : (s.entry p).state = .present ∨ (s.entry p).state = .entered ∨ (s.entry p).state = .elsewhere) :
    exec (.presenceTimerExpiry p) s = .next ((s.setEntry p (s.entry p).toAbsent).post .peerGone p
      (BitVec.ofNat 16 (peerCode (s.entry p).state)) i) := by
  have hdue : Timer.due s.tick (some i) = true := hreached
  have hexec : exec (.presenceTimerExpiry p) s = done s ((s.setEntry p (s.entry p).toAbsent).post .peerGone p
      (word (s.entry p).state.code) i) := by
    rcases hstate with h | h | h
    all_goals
      simp only [exec, execPresenceTimerExpiry, htimer, hdue, if_true, h]
      rfl
  rw [hexec, EntryState.word_code]
  exact done_same hstands rfl rfl

/-- The part after a participant is lost, before the test for all done. -/
def State.withLost (s : State) (p : Station) (i : Instant) : State :=
  (s.setEntry p { s.entry p with state := .lost, lostTimer := none }).post .peerLost p
    (((s.entry p).car.elim 0 CarRecord.laps).setWidth 16) i

theorem exec_lostTimerExpiry {s : State} {p : Station} {i : Instant} (htimer : (s.entry p).lostTimer = some i)
    (hreached : reached s.tick i = true)
    (hstate : (s.entry p).state = .grid ∨ (s.entry p).state = .racing ∨ (s.entry p).state = .finished) :
    exec (.lostTimerExpiry p) s = done s (s.withLost p i).closeIfAllDone := by
  have hdue : Timer.due s.tick (some i) = true := hreached
  rcases hstate with h | h | h
  all_goals
    simp only [exec, execLostTimerExpiry, htimer, hdue, if_true, h]
    rfl

theorem State.entry_withLost (s : State) (p q : Station) (i : Instant) :
    (s.withLost p i).entry q = if q = p then { s.entry p with state := .lost, lostTimer := none } else s.entry q :=
  s.entry_setEntry p q _

/-- Whether all are done once a participant is lost: it counts as done itself. -/
theorem State.allDone_withLost_iff {s : State} {p : Station} {i : Instant} {r : RaceRecord}
    (hrecord : s.race.record = some r) (hown : s.race.own = .finished) :
    (s.withLost p i).allDone = true ↔
      ∀ q, inMask r.mask q = true → q ≠ s.own → q ≠ p → isDone (s.entry q) := by
  rw [State.allDone_iff (s := s.withLost p i) hrecord]
  refine (and_iff_right hown).trans (forall_congr' fun q => imp_congr_right fun _ => imp_congr_right fun _ => ?_)
  rw [State.entry_withLost]
  by_cases hq : q = p
  · simp [hq, isDone]
  · simp [hq]

/-- The silence timer's expiry. -/
theorem exec_silenceTimerExpiry {s : State} {i : Instant} (htimer : s.peers.silenceTimer = some i)
    (hreached : reached s.tick i = true) :
    exec .silenceTimerExpiry s = done s (if s.peers.heard then
      (s.setPeers { s.peers with silenceTimer := none, silent := true }).post .linkSilent s.own
        (word s.presentPeers.length) i
      else s.setPeers { s.peers with silenceTimer := none }) := by
  have hdue : Timer.due s.tick (some i) = true := hreached
  simp only [exec, execSilenceTimerExpiry, htimer, hdue, if_true]
  rfl

theorem State.length_presentPeers (s : State) :
    s.presentPeers.length =
      stations.countP fun p => decide (p ≠ s.own) && decide ((s.entry p).state ≠ .absent) := by
  rw [State.presentPeers, ← List.countP_eq_length_filter]

/-- What the loss of a participant leaves of the entries, whether or not it closes the race. -/
theorem State.entry_lost_settled (s : State) (p q : Station) (i : Instant) :
    (settle s (s.withLost p i).closeIfAllDone).entry q = (s.withLost p i).entry q := by
  simp

/-- Settles O36: the expiries of the presence, the lost and the silence timer. -/
theorem peerTimersExpire : Obligations.PeerTimersExpire := by
  refine ⟨fun s p i hstands htimer hreached hstate => ?_, fun s p i htimer hreached hstate => ?_,
    fun s i hstands htimer hreached => ⟨fun hheard => ?_, fun hheard => ?_⟩⟩
  · refine ⟨_, exec_presenceTimerExpiry hstands htimer hreached hstate, rfl, rfl, ?_, fun q hq => ?_, rfl, rfl⟩
    · exact (s.entry_setEntry p p _).trans (if_pos rfl)
    · exact (s.entry_setEntry p q _).trans (if_neg hq)
  · have hexec := exec_lostTimerExpiry htimer hreached hstate
    refine ⟨_, hexec, ?_, fun q hq => ?_, fun hown hstands => ?_, fun r hown hrecord => ⟨fun ⟨q, hq⟩ => ?_, fun hall => ?_⟩⟩
    · rw [State.entry_lost_settled, State.entry_withLost, if_pos rfl]
    · rw [State.entry_lost_settled, State.entry_withLost, if_neg hq]
    · have hnot : (s.withLost p i).allDone ≠ true := fun h =>
        hown (of_decide_eq_true (Bool.and_eq_true_iff.mp h).1)
      rw [State.closeIfAllDone_of_not hnot, settle_same (t := s.withLost p i) hstands rfl rfl]
      exact ⟨rfl, rfl⟩
    · obtain ⟨hmask, hother, hnotp, hrunning⟩ := hq
      have hnot : (s.withLost p i).allDone ≠ true := fun h =>
        hrunning ((State.allDone_withLost_iff hrecord hown).mp h q hmask hother hnotp)
      obtain ⟨hrace, hevents, -⟩ := settle_no_new_start (s := s) (t := s.withLost p i) id
      rw [State.closeIfAllDone_of_not hnot, hrace, hevents]
      exact ⟨rfl, rfl⟩
    · have hdone := (State.allDone_withLost_iff (p := p) (i := i) hrecord hown).mpr hall
      obtain ⟨hrace, hevents, -⟩ := settle_no_new_start (s := s) (t := (s.withLost p i).close none false) id
      rw [State.closeIfAllDone_of_all hdone]
      have hresults : (settle s ((s.withLost p i).close none false)).resultsFor none =
          (s.withLost p i).resultsFor none := by
        apply State.resultsFor_congr <;> simp
      rw [hresults, hrace, hevents, State.close_eq, State.origin_eq (s := s.withLost p i) hrecord]
      exact ⟨rfl, rfl⟩
  · have hexec := exec_silenceTimerExpiry htimer hreached
    rw [if_pos hheard, State.length_presentPeers] at hexec
    exact ⟨_, hexec.trans (done_same hstands rfl rfl), by rw [← hheard]; rfl, rfl, rfl⟩
  · have hexec := exec_silenceTimerExpiry htimer hreached
    rw [if_neg (by rw [hheard]; exact Bool.false_ne_true)] at hexec
    exact hexec.trans (done_same hstands rfl rfl)

end Sys2Proof.Machine
end

section
/-! PROOFS. The lamp program: the governing step, the schedule, green and the hold (R152 to R157). -/

namespace Sys2Proof.Machine

open Sys2Proof.Claims

/-! ## The governing step (R2, R152) -/

/-- One step of the choice of the governing step. -/
def governFold (steps : Four Instant) (hit : Pin → Bool) (best : Option Pin) (i : Pin) : Option Pin :=
  if hit i then
    match best with
    | none => some i
    | some b => if 0 ≤ interval (steps.get b) (steps.get i) then some i else some b
  else best

theorem governingStep_eq (steps : Four Instant) (hit : Pin → Bool) :
    governingStep steps hit = pins.foldl (governFold steps hit) none := rfl

theorem interval_self (a : Instant) : interval a a = 0 := by
  rw [interval, BitVec.sub_self]
  rfl

/-- An instant that is later in one direction is earlier in the other (R2). -/
theorem interval_swap_neg {a b : Instant} (h : 0 < interval a b) : interval b a < 0 := by
  unfold interval at h ⊢
  rw [BitVec.toInt_eq_toNat_cond] at h ⊢
  split at h
  · split <;> bv_omega
  · bv_omega

/-- A step that does not take part changes nothing, and one that the governing step beats does not displace it. -/
theorem governFold_of_governs {steps : Four Instant} {hit : Pin → Bool} {k i : Pin} (h : governs steps hit k)
    (hi : k < i) : governFold steps hit (some k) i = some k := by
  unfold governFold
  split
  case isFalse => rfl
  case isTrue hhit =>
    refine if_neg fun hle => ?_
    rcases h.2 i (Fin.ne_of_gt hi) hhit with hpos | ⟨-, hlt⟩
    · have := interval_swap_neg hpos
      omega
    · exact absurd hlt (Fin.lt_asymm hi)

/-- The governing step displaces any other. -/
theorem governFold_governs {steps : Four Instant} {hit : Pin → Bool} {k : Pin} (h : governs steps hit k)
    {best : Option Pin} (hbest : ∀ b, best = some b → b ≠ k ∧ hit b = true) :
    governFold steps hit best k = some k := by
  unfold governFold
  rw [if_pos h.1]
  cases best with
  | none => rfl
  | some b =>
    obtain ⟨hne, hhit⟩ := hbest b rfl
    refine if_pos ?_
    rcases h.2 b hne hhit with hpos | ⟨heq, -⟩
    · exact Int.le_of_lt hpos
    · exact Int.le_of_eq (by rw [heq, interval_self])

/-- The choice among others than the governing step is another one that takes part. -/
theorem governFold_other {steps : Four Instant} {hit : Pin → Bool} {k i : Pin} (hi : i ≠ k) {best : Option Pin}
    (hbest : ∀ b, best = some b → b ≠ k ∧ hit b = true) :
    ∀ b, governFold steps hit best i = some b → b ≠ k ∧ hit b = true := by
  intro b hb
  unfold governFold at hb
  split at hb
  case isFalse => exact hbest b hb
  case isTrue hhit =>
    split at hb
    · cases hb
      exact ⟨hi, hhit⟩
    · split at hb
      · cases hb
        exact ⟨hi, hhit⟩
      · cases hb
        exact hbest b rfl

theorem foldl_governFold_some {steps : Four Instant} {hit : Pin → Bool} {k : Pin} (h : governs steps hit k)
    (l : List Pin) (hl : ∀ i ∈ l, k < i) : l.foldl (governFold steps hit) (some k) = some k := by
  induction l with
  | nil => rfl
  | cons i l ih =>
    rw [List.foldl_cons, governFold_of_governs h (hl i List.mem_cons_self)]
    exact ih fun j hj => hl j (List.mem_cons_of_mem i hj)

/-- Over steps in program order the governing one is chosen. -/
theorem foldl_governFold {steps : Four Instant} {hit : Pin → Bool} {k : Pin} (h : governs steps hit k) (l : List Pin)
    (hl : l.Pairwise (· < ·)) (hk : k ∈ l) (best : Option Pin)
    (hbest : ∀ b, best = some b → b ≠ k ∧ hit b = true) : l.foldl (governFold steps hit) best = some k := by
  induction l generalizing best with
  | nil => exact absurd hk List.not_mem_nil
  | cons i l ih =>
    obtain ⟨hi, hl⟩ := List.pairwise_cons.mp hl
    rw [List.foldl_cons]
    by_cases heq : i = k
    · subst heq
      rw [governFold_governs h hbest]
      exact foldl_governFold_some h l hi
    · exact ih hl ((List.mem_cons.mp hk).resolve_left fun hki => heq hki.symm) _ (governFold_other heq hbest)

theorem mem_pins (k : Pin) : k ∈ pins := by
  match k with
  | 0 | 1 | 2 | 3 => decide

theorem governingStep_of_governs {steps : Four Instant} {hit : Pin → Bool} {k : Pin} (h : governs steps hit k) :
    governingStep steps hit = some k := by
  rw [governingStep_eq]
  exact foldl_governFold h pins (by decide) (mem_pins k) none nofun

theorem governingStep_of_none {steps : Four Instant} {hit : Pin → Bool} (h : ∀ k, hit k = false) :
    governingStep steps hit = none := by
  have hfold : ∀ i, governFold steps hit none i = none := fun i => if_neg (by rw [h i]; exact Bool.false_ne_true)
  rw [governingStep_eq]
  simp only [pins, List.foldl_cons, List.foldl_nil, hfold]

/-- A step takes part when its instant is reached, unless the hold is 0 and the step is at green (R155). -/
theorem stepTakesPart_iff {t : Settings} {green : Instant} {steps : Four Instant} {now : Instant} {j : Pin} :
    stepTakesPart t green steps now j = true ↔
      reached now (steps.get j) = true ∧ ¬ (t.greenHold = 0 ∧ steps.get j = green) := by
  rw [stepTakesPart, Bool.and_eq_true, Bool.not_eq_true', Bool.and_eq_false_iff, decide_eq_false_iff_not,
    decide_eq_false_iff_not, Decidable.not_and_iff_not_or_not]

/-- The governing step as the model decides it is the one of the manual. -/
theorem governedAt_governingAt (t : Settings) (green : Instant) (steps : Four Instant) (now : Instant) :
    governedAt t green steps now (governingAt t green steps now) := by
  intro hit hhit
  have hsame : stepTakesPart t green steps now = hit := funext fun j =>
    Bool.eq_iff_iff.mpr (stepTakesPart_iff.trans (hhit j).symm)
  rw [governingAt, hsame]
  exact ⟨governingStep_of_none, fun k => governingStep_of_governs⟩

/-! ## The schedule of a green instant (R152, R153, R156) -/

/-- The instants of the steps of a schedule. -/
def Settings.stepInstants (t : Settings) (green : Instant) : Four Instant :=
  Four.ofFn fun p => green - millis (t.lampSteps.get p).offset

theorem Settings.get_stepInstants (t : Settings) (green : Instant) (k : Pin) :
    (t.stepInstants green).get k = green - BitVec.ofNat 32 ((t.lampSteps.get k).offset * 1000) :=
  Four.get_ofFn _ k

/-- The interval between two steps of one schedule. -/
theorem interval_steps (green : Instant) {a b : Nat} (ha : a ≤ 10000) (hb : b ≤ 10000) :
    interval (green - BitVec.ofNat 32 (a * 1000)) (green - BitVec.ofNat 32 (b * 1000)) = (a : Int) * 1000 - b * 1000 := by
  unfold interval
  rw [BitVec.toInt_eq_toNat_cond]
  split <;> bv_omega

/-- A step at green is one whose offset is 0. -/
theorem step_at_green_iff (green : Instant) {a : Nat} (ha : a ≤ 10000) :
    green - BitVec.ofNat 32 (a * 1000) = green ↔ a = 0 := by
  constructor
  · intro h
    bv_omega
  · rintro rfl
    bv_omega

theorem Settings.offset_le {t : Settings} (h : t.inRange) (k : Pin) : (t.lampSteps.get k).offset ≤ 10000 := by
  obtain ⟨-, -, -, -, -, -, -, -, -, -, -, -, -, hsteps⟩ := h
  exact (hsteps k).2

/-- Of the steps that take part, the one with the least offset, the later in the program of two that share it, governs. -/
theorem governs_of_least {t : Settings} (hrange : t.inRange) (green : Instant) {hit : Pin → Bool} {k : Pin}
    (hk : hit k = true) (hleast : ∀ j, hit j = true →
      (t.lampSteps.get k).offset < (t.lampSteps.get j).offset ∨
        ((t.lampSteps.get k).offset = (t.lampSteps.get j).offset ∧ j ≤ k)) :
    governs (t.stepInstants green) hit k := by
  refine ⟨hk, fun j hj hhit => ?_⟩
  rw [Settings.get_stepInstants, Settings.get_stepInstants]
  rcases hleast j hhit with hlt | ⟨heq, hle⟩
  · rw [interval_steps green (Settings.offset_le hrange j) (Settings.offset_le hrange k)]
    exact .inl (by omega)
  · rw [heq]
    exact .inr ⟨rfl, Nat.lt_of_le_of_ne hle fun h => hj (Fin.ext h)⟩

/-- A measure has a least value among the elements that have a property. -/
theorem exists_minimal {α : Type} {p : α → Prop} (measure : α → Nat) (n : Nat) (a : α) (ha : p a)
    (hn : measure a = n) : ∃ k, p k ∧ ∀ i, p i → measure k ≤ measure i := by
  induction n using Nat.strongRecOn generalizing a with
  | ind n ih =>
    by_cases hless : ∃ i, p i ∧ measure i < n
    · obtain ⟨i, hi, hlt⟩ := hless
      exact ih (measure i) hlt i hi rfl
    · exact ⟨a, ha, fun i hi => hn ▸ Nat.not_lt.mp fun hlt => hless ⟨i, hi, hlt⟩⟩

/-- Among the steps that take part there is one of least offset, the latest in the program. -/
theorem exists_least {hit : Pin → Bool} (offset : Pin → Nat) (h : ∃ j, hit j = true) :
    ∃ k, hit k = true ∧ ∀ j, hit j = true → offset k < offset j ∨ (offset k = offset j ∧ j ≤ k) := by
  obtain ⟨j, hj⟩ := h
  obtain ⟨k, hk, hmin⟩ := exists_minimal (p := fun k => hit k = true) (fun k : Pin => offset k * 4 + (3 - k.val)) _
    j hj rfl
  refine ⟨k, hk, fun i hi => ?_⟩
  have hle := hmin i hi
  have hki := k.isLt
  have hii := i.isLt
  rw [Fin.le_def]
  omega

theorem LampUnit.program_schedule (l : LampUnit) (t : Settings) (now green : Instant) :
    (l.schedule t now green).program =
      .scheduled green (t.stepInstants green) (governingAt t green (t.stepInstants green) now) := rfl

theorem LampUnit.pattern_schedule (l : LampUnit) (t : Settings) (now green : Instant) :
    (l.schedule t now green).pattern t = stepPattern t (governingAt t green (t.stepInstants green) now) := rfl

theorem LampUnit.scheduledAt_schedule (l : LampUnit) (t : Settings) (now green : Instant) :
    scheduledAt t now green (l.schedule t now green) := by
  refine ⟨_, _, l.program_schedule t now green, rfl, rfl, governedAt_governingAt _ _ _ _, fun k =>
    ⟨t.get_stepInstants green k, ?_⟩⟩
  rw [Settings.get_stepInstants]
  exact Four.get_ofFn _ k

/-- The steps that take part in a schedule, by their offsets. -/
theorem hit_iff_stepInstants {t : Settings} {now green : Instant} (hrange : t.inRange) {hit : Pin → Bool}
    (hhit : ∀ j, hit j = true ↔ reached now (green - BitVec.ofNat 32 ((t.lampSteps.get j).offset * 1000)) = true ∧
      ¬ (t.greenHold = 0 ∧ (t.lampSteps.get j).offset = 0)) (j : Pin) :
    hit j = true ↔
      reached now ((t.stepInstants green).get j) = true ∧ ¬ (t.greenHold = 0 ∧ (t.stepInstants green).get j = green) := by
  rw [hhit j, Settings.get_stepInstants, step_at_green_iff green (Settings.offset_le hrange j)]

/-! ## The lamp timers (R154, R155) -/

theorem LampUnit.drop_dark (l : LampUnit) : dark l.drop := ⟨rfl, Four.get_replicate none, rfl, rfl⟩

theorem exec_lampStepTimerExpiry {s : State} {i : Instant} {k : Pin} (hstands : s.currentStands = true)
    (htimer : s.lamp.stepTimers.get k = some i) (hreached : reached s.tick i = true) :
    exec (.lampStepTimerExpiry k) s = .next (s.setLamp (s.lamp.atStep s.settings k s.tick)) := by
  have hdue : Timer.due s.tick (some i) = true := hreached
  simp only [exec, execLampStepTimerExpiry, htimer, hdue, if_true]
  exact done_same hstands rfl rfl

theorem exec_lampGreenTimerExpiry {s : State} {i : Instant} (hstands : s.currentStands = true)
    (htimer : s.lamp.greenTimer = some i) (hreached : reached s.tick i = true) :
    exec .lampGreenTimerExpiry s = .next (s.setLamp (s.lamp.atGreen s.settings s.tick)) := by
  have hdue : Timer.due s.tick (some i) = true := hreached
  simp only [exec, execLampGreenTimerExpiry, htimer, hdue, if_true]
  exact done_same hstands rfl rfl

theorem exec_holdTimerExpiry {s : State} {i : Instant} (hstands : s.currentStands = true)
    (htimer : s.lamp.holdTimer = some i) (hreached : reached s.tick i = true) :
    exec .holdTimerExpiry s = .next (s.setLamp s.lamp.drop) := by
  have hdue : Timer.due s.tick (some i) = true := hreached
  simp only [exec, execHoldTimerExpiry, htimer, hdue, if_true]
  exact done_same hstands rfl rfl

/-- A step's expiry decides the governing step again. -/
theorem LampUnit.program_atStep (l : LampUnit) (t : Settings) (k : Pin) (now : Instant) :
    ((∀ green steps g, l.program ≠ .scheduled green steps g) → (l.atStep t k now).program = l.program) ∧
      ∀ green steps g, l.program = .scheduled green steps g →
        ∃ h, (l.atStep t k now).program = .scheduled green steps h ∧ governedAt t green steps now h := by
  refine ⟨fun hnot => ?_, fun green steps g hprogram => ⟨_, ?_, governedAt_governingAt t green steps now⟩⟩
  · rw [LampUnit.atStep]
    cases hprogram : l.program
    case scheduled => exact absurd hprogram (hnot _ _ _)
    all_goals rfl
  · rw [LampUnit.atStep, hprogram]

/-- Green under a schedule: the hold, or its end at once (R3, R155). -/
theorem LampUnit.atGreen_scheduled {l : LampUnit} {t : Settings} {now green : Instant} {steps : Four Instant}
    {g : Option Pin} (hprogram : l.program = .scheduled green steps g) :
    (reached now (green + BitVec.ofNat 32 (t.greenHold * 1000)) = true → dark (l.atGreen t now)) ∧
      (reached now (green + BitVec.ofNat 32 (t.greenHold * 1000)) = false →
        (l.atGreen t now).program = .hold green (stepPattern t (governingStep steps fun _ => true))
          (green + BitVec.ofNat 32 (t.greenHold * 1000)) ∧
        (l.atGreen t now).holdTimer = some (green + BitVec.ofNat 32 (t.greenHold * 1000)) ∧
        (∀ j, (l.atGreen t now).stepTimers.get j = none) ∧ (l.atGreen t now).greenTimer = none) := by
  have hgreen : l.atGreen t now =
      if reached now (green + BitVec.ofNat 32 (t.greenHold * 1000)) then l.drop
      else { l with
        program := .hold green (stepPattern t (governingStep steps fun _ => true))
          (green + BitVec.ofNat 32 (t.greenHold * 1000))
        stepTimers := Four.replicate none
        greenTimer := none
        holdTimer := some (green + BitVec.ofNat 32 (t.greenHold * 1000)) } := by
    rw [LampUnit.atGreen, hprogram]
    rfl
  refine ⟨fun h => ?_, fun h => ?_⟩
  · rw [hgreen, if_pos h]
    exact l.drop_dark
  · rw [hgreen, if_neg (by rw [h]; exact Bool.false_ne_true)]
    exact ⟨rfl, rfl, Four.get_replicate none, rfl⟩

/-- Settles O43: the lamp timers, the governing step, the patterns, and the schedule of a green instant. -/
theorem lampTimersRunProgram : Obligations.LampTimersRunProgram := by
  refine ⟨fun s i hstands hreached => ⟨fun k htimer => ?_, fun green steps g htimer hprogram => ?_, fun htimer => ?_⟩,
    fun steps hit => ⟨governingStep_of_none, fun k => governingStep_of_governs⟩, fun l t => ⟨fun h => ?_, ?_, ?_⟩,
    fun t k => rfl, fun l t now green => ⟨l.scheduledAt_schedule t now green, rfl, rfl, rfl, fun hit hhit =>
      ⟨fun hnone hrange => ?_, fun hrange hsome => ?_⟩⟩⟩
  · obtain ⟨hother, hscheduled⟩ := s.lamp.program_atStep s.settings k s.tick
    refine ⟨_, exec_lampStepTimerExpiry hstands htimer hreached, rfl, rfl, ?_, fun j hj => ?_, hother, hscheduled⟩
    · exact (Four.get_set ..).trans (if_pos rfl)
    · exact (Four.get_set ..).trans (if_neg hj)
  · exact ⟨_, exec_lampGreenTimerExpiry hstands htimer hreached, rfl, LampUnit.atGreen_scheduled hprogram⟩
  · exact ⟨_, exec_holdTimerExpiry hstands htimer hreached, rfl, s.lamp.drop_dark, rfl, rfl⟩
  · rw [LampUnit.pattern, h]
  · intro green pattern holdEnd h
    rw [LampUnit.pattern, h]
  · intro green steps g h
    rw [LampUnit.pattern, h]
    exact ⟨fun hg => by rw [hg]; rfl, fun k hg => by rw [hg]; rfl⟩
  · have hgoverned := governedAt_governingAt t green (t.stepInstants green) now hit (hit_iff_stepInstants hrange hhit)
    rw [LampUnit.pattern_schedule, hgoverned.1 hnone]
    rfl
  · have hgoverned := governedAt_governingAt t green (t.stepInstants green) now hit (hit_iff_stepInstants hrange hhit)
    obtain ⟨k, hk, hleast⟩ := exists_least (fun k => (t.lampSteps.get k).offset) hsome
    refine ⟨k, ?_, hk, hleast⟩
    rw [LampUnit.pattern_schedule, hgoverned.2 k (governs_of_least hrange green hk hleast)]
    rfl

end Sys2Proof.Machine
end

section
/-! PROOFS. The Transmitter's turn: its timers, the start opportunity and the idle gap (R19, R37 to R42, R48, R82). -/

namespace Sys2Proof.Machine

open Sys2Proof.Claims

/-! ## The timers (R37, R38, R48) -/

/-- A Transmitter's timer that stops changes no queue and no frame. -/
theorem State.currentStands_of_tx {s t : State} (hstands : s.currentStands = true)
    (hcurrent : t.tx.current = s.tx.current) (hphase : s.tx.phase = .sending → t.tx.phase = .sending)
    (hqueue : t.tx.queue = s.tx.queue) (hslot : t.tx.slot.state = s.tx.slot.state) (hown : t.race.own = s.race.own) :
    t.currentStands = true := by
  have hempty : t.tx.slot.isEmpty = s.tx.slot.isEmpty := by rw [CarSlot.isEmpty, CarSlot.isEmpty, hslot]
  have hexists : ∀ x, t.sourceExists x = s.sourceExists x := fun x => by
    cases x <;> simp only [State.sourceExists, hqueue, hempty, hown]
  unfold State.currentStands at hstands ⊢
  rw [hcurrent]
  cases hc : s.tx.current with
  | none => rfl
  | some c =>
    rw [hc] at hstands
    simp only [Bool.or_eq_true, decide_eq_true_eq, hexists] at hstands ⊢
    exact hstands.imp_left hphase

theorem exec_stuckWatchExpiry {s : State} {i : Instant} (htimer : s.tx.stuckWatch = some i)
    (hreached : reached s.tick i = true) :
    exec .stuckWatchExpiry s = done s (if s.tx.phase = .disabled then s.setTx { s.tx with stuckWatch := none }
      else (s.setTx { s.tx with
        phase := .stuck, stuckWatch := none, stuckSince := s.tick, stuckCount := 0, callTimer := none
        inFlight := none }).post .busStuck s.own (word s.tx.queue.length) i) := by
  have hdue : Timer.due s.tick (some i) = true := hreached
  simp only [exec, execStuckWatchExpiry, htimer, hdue, if_true]
  rfl

theorem exec_callCadenceTimerExpiry {s : State} {i : Instant} (htimer : s.tx.callTimer = some i)
    (hreached : reached s.tick i = true) :
    exec .callCadenceTimerExpiry s = done s (s.setTx { s.tx with callTimer := none }) := by
  have hdue : Timer.due s.tick (some i) = true := hreached
  simp only [exec, execCallCadenceTimerExpiry, htimer, hdue, if_true]

theorem exec_reportSpacingTimerExpiry {s : State} {i : Instant} (htimer : s.tx.spacingTimer = some i)
    (hreached : reached s.tick i = true) :
    exec .reportSpacingTimerExpiry s = done s (s.setTx { s.tx with spacingTimer := none }) := by
  have hdue : Timer.due s.tick (some i) = true := hreached
  simp only [exec, execReportSpacingTimerExpiry, htimer, hdue, if_true]

theorem exec_resendTimerExpiry {s : State} {i : Instant} (htimer : s.tx.resendTimer = some i)
    (hreached : reached s.tick i = true) :
    exec .resendTimerExpiry s = done s (s.setTx { s.tx with resendTimer := none }) := by
  have hdue : Timer.due s.tick (some i) = true := hreached
  simp only [exec, execResendTimerExpiry, htimer, hdue, if_true]

/-- An expiry that leaves no candidate where there was none, or comes where no frame may begin, changes its timer alone. -/
theorem settle_timer {s t : State} (hstands : t.currentStands = true) (hopportunity : t.tx.opportunity = s.tx.opportunity)
    (htick : t.tick = s.tick) (hphase : t.tx.phase = s.tx.phase)
    (h : ¬ idleOpen s ∨ (s.workPending = false → t.workPending = false)) : settle s t = t := by
  rcases h with hidle | hwork
  · exact settle_of_not_idleOpen hidle hstands hopportunity htick hphase
  · refine settle_of_not_begin hstands ?_
    rintro ⟨hbefore, hafter, -⟩
    rw [hwork hbefore] at hafter
    cases hafter

/-- No candidate appears where none of the three tests gains. -/
theorem State.no_work_of_tests {s t : State} (hcurrent : t.tx.current = s.tx.current) (hqueue : t.tx.queue = s.tx.queue)
    (hown : t.race.own = s.race.own)
    (h : t.race.own ≠ .offline → (t.carEligible = true ∨ t.resendEligible = true ∨ t.callDue = true) →
      s.carEligible = true ∨ s.resendEligible = true ∨ s.callDue = true) :
    s.workPending = false → t.workPending = false := by
  rw [← Bool.not_eq_true, ← Bool.not_eq_true, State.workPending_iff, State.workPending_iff, hcurrent, hqueue]
  refine mt fun hwork => hwork.imp_right fun hwork => hwork.imp_right fun ⟨hnot, htests⟩ => ⟨?_, h hnot htests⟩
  rwa [← hown]

/-- Settles O35: the stuck watch, and the three timers whose expiry may make work pending. -/
theorem transmitterTimersExpire : Obligations.TransmitterTimersExpire := by
  refine ⟨fun s i hstands hsending htimer hreached => ⟨fun hphase => ?_, fun hphase => ?_⟩,
    fun s i hstands hreached => ⟨fun htimer => ?_, fun htimer => ?_, fun htimer => ?_⟩⟩
  · have hexec := exec_stuckWatchExpiry htimer hreached
    rw [if_neg hphase, done, settle_of_not_begin] at hexec
    · exact ⟨_, hexec, rfl, rfl⟩
    · exact State.currentStands_of_tx hstands rfl (fun h => absurd h hsending) rfl rfl rfl
    · exact fun h => TxPhase.noConfusion h.2.2.2
  · have hexec := exec_stuckWatchExpiry htimer hreached
    rw [if_pos hphase] at hexec
    exact hexec.trans (done_id hstands rfl)
  · have heq := settle_eq_of_no_new_start (s := s) (t := s.setTx { s.tx with callTimer := none }) id
    refine ⟨_, exec_callCadenceTimerExpiry htimer hreached, by rw [heq]; rfl, by simp, ?_, by simp, by simp,
      fun hidle hown => ?_, fun h => ?_⟩
    · exact (settle_no_new_start (s := s) (t := s.setTx { s.tx with callTimer := none }) id).2.2
    · have hready := hidle.2.2
      have hnot : s.race.own ≠ .offline := by rcases hown with h | h <;> rw [h] <;> exact nofun
      exact begun_of_settle hidle (State.current_of_idle (s := s) hidle.1) (State.candidate_call
        (State.queue_of_idle (s := s) hidle.1) hown (State.not_eligible_of_idle (s := s) hidle.1 hnot).1 rfl
        (by show s.tx.phase ≠ .stuck; rw [hready]; exact nofun)) nofun rfl rfl rfl rfl
    · have hsame : settle s (s.setTx { s.tx with callTimer := none }) = s.setTx { s.tx with callTimer := none } := by
        refine settle_timer hstands rfl rfl rfl (h.imp_right fun hown => ?_)
        refine State.no_work_of_tests rfl rfl rfl fun _ htests => htests.imp_right (Or.imp_right fun hcall => ?_)
        exact absurd (State.callDue_iff.mp hcall).1 (not_or.mpr hown)
      rw [hsame]
      rfl
  · have heq := settle_eq_of_no_new_start (s := s) (t := s.setTx { s.tx with spacingTimer := none }) id
    refine ⟨_, exec_reportSpacingTimerExpiry htimer hreached, by rw [heq]; rfl, by simp, ?_, by simp, by simp,
      fun v hidle hown hslot => ?_, fun h => ?_⟩
    · exact (settle_no_new_start (s := s) (t := s.setTx { s.tx with spacingTimer := none }) id).2.2
    · refine begun_of_settle hidle (State.current_of_idle (s := s) hidle.1) (State.candidate_car (v := v)
        (State.queue_of_idle (s := s) hidle.1) hown hslot rfl) nofun rfl rfl rfl (if_neg ?_)
      show ¬ s.tx.slot.isSent = true
      rw [CarSlot.isSent, hslot]
      exact Bool.false_ne_true
    · have hsame : settle s (s.setTx { s.tx with spacingTimer := none }) = s.setTx { s.tx with spacingTimer := none } := by
        refine settle_timer hstands rfl rfl rfl (h.imp_right fun h => ?_)
        refine State.no_work_of_tests rfl rfl rfl fun hown htests => htests.imp_left fun hcar => ?_
        obtain ⟨v, hslot⟩ := (State.carEligible_iff.mp hcar).1
        exact absurd hslot (h.resolve_left hown v)
      rw [hsame]
      rfl
  · have heq := settle_eq_of_no_new_start (s := s) (t := s.setTx { s.tx with resendTimer := none }) id
    refine ⟨_, exec_resendTimerExpiry htimer hreached, by rw [heq]; rfl, by simp, ?_, by simp, by simp,
      fun v hidle hown hslot => ?_, fun h => ?_⟩
    · exact (settle_no_new_start (s := s) (t := s.setTx { s.tx with resendTimer := none }) id).2.2
    · refine begun_of_settle hidle (State.current_of_idle (s := s) hidle.1) (State.candidate_resend (v := v)
        (State.queue_of_idle (s := s) hidle.1) hown hslot rfl) nofun rfl rfl rfl (if_pos ?_)
      show s.tx.slot.isSent = true
      rw [CarSlot.isSent, hslot]
    · have hsame : settle s (s.setTx { s.tx with resendTimer := none }) = s.setTx { s.tx with resendTimer := none } := by
        refine settle_timer hstands rfl rfl rfl (h.imp_right fun h => ?_)
        refine State.no_work_of_tests rfl rfl rfl fun _ htests => htests.imp_right (Or.imp_left fun hresend => ?_)
        obtain ⟨hown, ⟨v, hslot⟩, -⟩ := State.resendEligible_iff.mp hresend
        rcases h with h | h
        · exact absurd hown (not_or.mpr h)
        · exact absurd hslot (h v)
      rw [hsame]
      rfl

/-! ## The start opportunity (R40 to R42, R82) -/

theorem exec_startOpportunity {s : State} (hstands : s.currentStands = true)
    (hphase : s.tx.phase = .ready ∨ s.tx.phase = .backoff) (hopen : s.lineOpen = true) :
    exec .startOpportunity s = done s s.arbitrate := by
  simp only [exec, execStartOpportunity, TxPhase.mayBegin_iff.mpr hphase, hopen, and_self, if_true,
    State.loseCurrent_of_stands hstands]

/-- A departure is followed by nothing: the line is no longer open, and a frame that is SENDING goes on. -/
theorem settle_depart (s u : State) (c : Current) : settle s (u.depart c) = u.depart c :=
  (settle_closed (s := s) (t := u.depart c) rfl).trans (State.loseCurrent_of_stands rfl)

/-- A CAR and a resend carry the same, whichever of the two it is. -/
theorem carries_of_refreshed {s : State} {x : Source} {f : BusFrame} (h : carries s (s.refreshSource x) f) :
    carries s x f := by
  cases x
  case car | resend =>
    have hsource : s.refreshSource .car = .car ∨ s.refreshSource .car = .resend := by
      unfold State.refreshSource
      dsimp only
      split <;> simp
    obtain ⟨hsender, hflag, hsequence, hcode, -, -, -, hcar⟩ := h
    refine ⟨hsender, hflag, hsequence, hcode.trans ?_, nofun, nofun, nofun, fun v _ hv => hcar v hsource hv⟩
    rcases hsource with heq | heq
    all_goals
      show sourceCode (s.refreshSource .car) = 3
      rw [heq]
      rfl
  all_goals exact h

/-- The choice when the current frame, or the arbiter's choice, is no START of a short field. -/
theorem State.arbitrate_of_next {s : State} {c : Current} (hnext : s.nextFrame = some c)
    (hshort : c.source = .start → s.fieldShort = false) : s.arbitrate = s.depart c := by
  rw [State.arbitrate, hnext]
  refine if_neg fun h => ?_
  rw [hshort h.1] at h
  exact absurd h.2 Bool.false_ne_true

/-- The frame that goes next is the current one, else the arbiter's choice (R41). -/
theorem State.nextFrame_of {s : State} {x : Source}
    (h : (∃ c, s.tx.current = some c ∧ c.source = x) ∨
      (s.tx.current = none ∧
        ((∃ c rest, s.tx.queue = c :: rest ∧ x = c.source) ∨
          (s.tx.queue = [] ∧ s.race.own ≠ .offline ∧
            ((x = .car ∧ s.carEligible = true) ∨ (x = .resend ∧ s.carEligible = false ∧ s.resendEligible = true) ∨
              (x = .call ∧ s.carEligible = false ∧ s.resendEligible = false ∧ s.callDue = true)))))) :
    ∃ c, s.nextFrame = some c ∧ c.source = x := by
  rcases h with ⟨c, hcurrent, hsource⟩ | ⟨hcurrent, hcandidate⟩
  · exact ⟨c, by rw [State.nextFrame, hcurrent], hsource⟩
  · have hnext : s.candidate = some x := by
      rcases hcandidate with ⟨c, rest, hqueue, rfl⟩ | ⟨hqueue, hown, hcase⟩
      · exact State.candidate_of_queue hqueue
      · rw [State.candidate, hqueue]
        dsimp only
        rw [if_neg hown]
        rcases hcase with ⟨rfl, hcar⟩ | ⟨rfl, hcar, hresend⟩ | ⟨rfl, hcar, hresend, hcall⟩
        · rw [if_pos hcar]
        · rw [hcar, if_neg Bool.false_ne_true, if_pos hresend]
        · rw [hcar, hresend, if_neg Bool.false_ne_true, if_neg Bool.false_ne_true, if_pos hcall]
    exact ⟨⟨x, 0, 0⟩, by rw [State.nextFrame, hcurrent, hnext]; rfl, rfl⟩

/-! ### A START withdrawn at its departure (R82) -/

/-- The field is counted by the entries and the own signature. -/
theorem State.length_field_of {s t : State} (hentry : ∀ p, t.entry p = s.entry p) (hown : t.own = s.own)
    (hlobby : t.race.entry = s.race.entry) : t.field.length = fieldCount s := by
  have hfield : t.inField = s.inField := funext fun p => by
    simp only [State.inField, hentry, hown, hlobby]
  rw [← State.length_field, State.field, State.field, hfield]

/-- The part without its own START, before LOBBY_EXTENDED is posted. -/
def State.withoutOwnStart (s : State) : State :=
  (s.setTx { s.tx with
    queue := s.tx.queue.filter fun c => decide (c ≠ .start)
    current := none
    phase := .ready }).setRace { s.race with
      proposal := .none
      lobbyTimer := some (s.tick + BitVec.ofNat 32 (s.settings.lobbyWindow * 1000000)) }

/-- The removal of the own START, with no current frame left. -/
theorem Transmitter.removeStart_idle (t : Transmitter) :
    ({ t.removeStart with current := none, phase := .ready } : Transmitter) = { t with
      queue := t.queue.filter fun c => decide (c ≠ .start), current := none, phase := .ready } := by
  unfold Transmitter.removeStart
  dsimp only
  split <;> rfl

/-- An own START withdrawn at its departure: removed, and LOBBY_EXTENDED posted. -/
theorem State.withdrawStart_eq (s : State) :
    s.withdrawStart =
      s.withoutOwnStart.post .lobbyExtended s.own (BitVec.ofNat 16 (fieldCount s)) s.tick := by
  have hcount : s.withoutOwnStart.field.length = fieldCount s := State.length_field_of (fun _ => rfl) rfl rfl
  have hremoved : (s.setTx { s.tx.removeStart with current := none, phase := .ready }).setRace { s.race with
      proposal := .none
      lobbyTimer := some (s.tick + BitVec.ofNat 32 (s.settings.lobbyWindow * 1000000)) } = s.withoutOwnStart := by
    rw [Transmitter.removeStart_idle]
    rfl
  rw [← hcount, ← hremoved]
  rfl

/-- An opportunity taken by a START of a short field: it is withdrawn, and the next candidate goes. -/
theorem State.arbitrate_of_short {s : State} {c : Current} (hnext : s.nextFrame = some c) (hsource : c.source = .start)
    (hshort : s.fieldShort = true) :
    s.arbitrate = match s.withdrawStart.candidate with
      | none => s.withdrawStart
      | some x => s.withdrawStart.depart ⟨x, 0, 0⟩ := by
  have hcurrent : s.withdrawStart.tx.current = none := by
    rw [State.withdrawStart_eq]
    rfl
  have hafter : s.withdrawStart.nextFrame = s.withdrawStart.candidate.map fun x => ⟨x, 0, 0⟩ := by
    rw [State.nextFrame, hcurrent]
  rw [State.arbitrate, hnext]
  refine (if_pos ⟨hsource, hshort⟩).trans ?_
  dsimp only
  rw [hafter]
  cases s.withdrawStart.candidate <;> rfl

/-- What follows the withdrawal at the opportunity of the event that took it. -/
theorem settle_arbitrate_of_short {s : State} {c : Current} (hnext : s.nextFrame = some c) (hsource : c.source = .start)
    (hshort : s.fieldShort = true) :
    settle s s.arbitrate = match s.withdrawStart.candidate with
      | none => s.withdrawStart
      | some x => s.withdrawStart.depart ⟨x, 0, 0⟩ := by
  rw [State.arbitrate_of_short hnext hsource hshort]
  split
  case h_1 =>
    refine settle_of_not_begin ?_ fun h => ?_
    · rw [State.withdrawStart_eq]
      rfl
    · rw [State.workPending, hnext] at h
      exact absurd h.1 (by simp)
  case h_2 => exact settle_depart s _ _

/-- The outcomes of an opportunity that a START of a short field takes. -/
theorem exec_startOpportunity_of_short {s : State} (hstands : s.currentStands = true)
    (hphase : s.tx.phase = .ready ∨ s.tx.phase = .backoff) (hopen : s.lineOpen = true)
    (hstart : (s.tx.current = none ∧ s.tx.queue.head? = some .start) ∨
      ∃ c, s.tx.current = some c ∧ c.source = .start) (hshort : fieldCount s < s.settings.minField) :
    (s.withdrawStart.candidate = none ∧ exec .startOpportunity s = .next s.withdrawStart) ∨
      ∃ x, s.withdrawStart.candidate = some x ∧
        exec .startOpportunity s = .next (s.withdrawStart.depart ⟨x, 0, 0⟩) := by
  have hnext : ∃ c, s.nextFrame = some c ∧ c.source = .start := by
    refine State.nextFrame_of (hstart.symm.imp_right fun ⟨hcurrent, hhead⟩ => ⟨hcurrent, .inl ?_⟩)
    obtain ⟨rest, hqueue⟩ := List.head?_eq_some_iff.mp hhead
    exact ⟨.start, rest, hqueue, rfl⟩
  obtain ⟨c, hnext, hsource⟩ := hnext
  rw [exec_startOpportunity hstands hphase hopen, done,
    settle_arbitrate_of_short hnext hsource (State.fieldShort_iff.mpr hshort)]
  cases s.withdrawStart.candidate with
  | none => exact .inl ⟨rfl, rfl⟩
  | some x => exact .inr ⟨x, rfl, rfl⟩

/-- A CALL is due after the withdrawal where it was due before it. -/
theorem State.callDue_withoutOwnStart {s : State} (hphase : s.tx.phase = .ready ∨ s.tx.phase = .backoff) :
    s.withoutOwnStart.callDue = s.callDue := by
  have hnot : s.tx.phase ≠ .stuck := by rcases hphase with h | h <;> rw [h] <;> exact nofun
  rw [Bool.eq_iff_iff, State.callDue_iff, State.callDue_iff]
  exact and_congr_right fun _ => and_congr_right fun _ => iff_of_true nofun hnot

/-- The choice after the withdrawal: the control queue first, and in ENTERED a CALL once no car waits. -/
theorem State.candidate_withdrawStart {s : State} (hphase : s.tx.phase = .ready ∨ s.tx.phase = .backoff) :
    (∀ n rest, s.withdrawStart.tx.queue = .withdraw n :: rest → s.withdrawStart.candidate = some (.withdraw n)) ∧
      (s.withdrawStart.tx.queue = [] → s.race.own = .entered → s.carEligible = false →
        s.withdrawStart.candidate = if s.callDue then some .call else none) := by
  refine ⟨fun n rest hqueue => State.candidate_of_queue hqueue, fun hqueue hown hcar => ?_⟩
  rw [State.withdrawStart_eq] at hqueue ⊢
  have hown' : s.withoutOwnStart.race.own = .entered := hown
  have hresend : s.withoutOwnStart.resendEligible = false := by
    rw [State.resendEligible, hown']
    rfl
  show State.candidate _ = _
  rw [State.candidate, hqueue]
  show (if s.withoutOwnStart.race.own = .offline then none
    else if s.carEligible = true then some Source.car
    else if s.withoutOwnStart.resendEligible = true then some Source.resend
    else if s.withoutOwnStart.callDue = true then some Source.call else none) = _
  rw [State.callDue_withoutOwnStart hphase, hown', hcar, hresend]
  rfl

/-- Settles O32: what makes a candidate eligible, the departure at an opportunity, and a START withdrawn there. -/
theorem startOpportunityDeparts : Obligations.StartOpportunityDeparts := by
  refine ⟨fun s => ⟨State.carEligible_iff, State.resendEligible_iff, State.callDue_iff, State.workPending_iff, ?_⟩,
    fun s hstands hphase hopen => ⟨fun hwork => ?_, fun x hx hfield => ?_⟩,
    fun s hstands hphase hopen hstart hshort => ?_⟩
  · rw [State.lineOpen]
    cases s.tx.opportunity <;> simp [reached]
  · have hnone : s.nextFrame = none := by
      rw [State.workPending] at hwork
      exact Option.isSome_eq_false_iff.mp hwork |> Option.isNone_iff_eq_none.mp
    rw [exec_startOpportunity hstands hphase hopen, State.arbitrate, hnone]
    exact done_id hstands rfl
  · obtain ⟨c, hnext, hsource⟩ := State.nextFrame_of hx
    have hcarries := s.carries_ownFrame (s.refreshSource c.source)
    rw [hsource] at hcarries
    refine ⟨s.depart c, ⟨s.tick, s.refreshSource c.source, s.ownFrame (s.refreshSource c.source)⟩, ?_, rfl, rfl, rfl, rfl, rfl,
      rfl, rfl, rfl, by rw [hsource]; exact carries_of_refreshed hcarries⟩
    rw [exec_startOpportunity hstands hphase hopen, State.arbitrate_of_next hnext, done, settle_depart]
    intro hstart
    rw [← Bool.not_eq_true, State.fieldShort_iff]
    exact Nat.not_lt.mpr (hfield (hsource.symm.trans hstart))
  · obtain ⟨hwithdraw, hcall⟩ := State.candidate_withdrawStart hphase
    rcases exec_startOpportunity_of_short hstands hphase hopen hstart hshort with ⟨hnone, hexec⟩ | ⟨x, hsome, hexec⟩
    · refine ⟨_, hexec, ?_⟩
      refine ⟨by rw [State.withdrawStart_eq]; rfl, by rw [State.withdrawStart_eq]; rfl, fun n rest hqueue => ?_,
        fun hqueue hown hcar hdue => ?_, fun hqueue _ _ _ => ?_, ?_⟩
      · rw [hwithdraw n rest hqueue] at hnone
        cases hnone
      · rw [hcall hqueue hown hcar, if_pos hdue] at hnone
        cases hnone
      · rw [← hqueue, State.withdrawStart_eq]
        rfl
      · rw [State.withdrawStart_eq]
        exact ⟨rfl, rfl, rfl, rfl, rfl⟩
    · refine ⟨_, hexec, ?_⟩
      refine ⟨by rw [State.withdrawStart_eq]; rfl, by rw [State.withdrawStart_eq]; rfl, fun n rest hqueue => ?_,
        fun hqueue hown hcar hdue => ?_, fun hqueue hown hcar hdue => ?_, ?_⟩
      · obtain rfl : Source.withdraw n = x := Option.some.inj ((hwithdraw n rest hqueue).symm.trans hsome)
        exact ⟨_, rfl, rfl, by rw [State.withdrawStart_eq]; rfl, rfl⟩
      · rw [hcall hqueue hown hcar, if_pos hdue] at hsome
        obtain rfl := Option.some.inj hsome
        refine ⟨_, rfl, rfl, by rw [State.withdrawStart_eq]; rfl, ?_⟩
        rw [State.withdrawStart_eq]
        exact if_pos hown
      · rw [hcall hqueue hown hcar, hdue] at hsome
        cases hsome
      · rw [State.withdrawStart_eq]
        exact ⟨rfl, rfl, rfl, rfl, rfl⟩

end Sys2Proof.Machine
end

section
/-! PROOFS. The line: the idle gap (R19, R20, R39, R48), and the collision of an own frame (R44 to R46). -/

namespace Sys2Proof.Machine

open Sys2Proof.Claims

/-! ## The idle gap (R19, R39) -/

theorem State.deferral_eq (s : State) : s.deferral = (s.own.val + 7 - s.tx.lastSender.val) % 8 := by
  have hfin : ∀ a b : Fin 8, (a - b - 1).val = (a.val + 7 - b.val) % 8 := by decide
  exact hfin _ _

theorem Straps.slot_eq (p : Straps) : p.slot = 64 / 2 ^ p.rate.val := p.durations_eq.2.2.2

/-- The receiver at an idle gap: a frame still being assembled is broken (R20, R52). -/
def State.quietRx (s : State) : BusReceiver :=
  { s.rx with
    monitor := .idle, awaiting := false, arrival := none
    crcErrors :=
      if s.rx.arrival.isSome ∧ s.tx.phase ≠ .sending ∧ s.tx.crossing = false ∧ s.rx.remains = false
      then satInc s.rx.crcErrors else s.rx.crcErrors }

theorem State.endActivity_eq (s : State) :
    s.endActivity = { s with
      rx := s.quietRx, tx := { s.tx with stuckWatch := none, crossing := false } } := by
  by_cases hbroken : s.rx.arrival.isSome = true ∧ s.tx.phase ≠ .sending ∧ s.tx.crossing = false
  · have hleft : s.endActivity = { s with
        rx := { s.rx.discard with monitor := .idle, awaiting := false }
        tx := { s.tx with stuckWatch := none, crossing := false } } := by
      rw [State.endActivity, if_pos hbroken]
      rfl
    rw [hleft, State.quietRx, BusReceiver.discard]
    cases hremains : s.rx.remains <;> simp [hbroken]
  · have hleft : s.endActivity = { s with
        rx := { s.rx with monitor := .idle, awaiting := false, arrival := none }
        tx := { s.tx with stuckWatch := none, crossing := false } } := by
      rw [State.endActivity, if_neg hbroken]
      rfl
    rw [hleft, State.quietRx, if_neg fun h => hbroken ⟨h.1, h.2.1, h.2.2.1⟩]

/-- The part after an idle gap, in a given phase and with a given current frame: quiet, with its opportunity set. -/
def State.quiet (s : State) (wait : Nat) : State :=
  { s with
    rx := s.quietRx
    tx := { s.tx with
      stuckWatch := none, crossing := false
      opportunity := some (s.tick + BitVec.ofNat 32 (wait * (64 / 2 ^ s.straps.rate.val))) } }

theorem exec_idleGap {s : State} (hbusy : s.rx.monitor = .busy) (hstuck : s.tx.phase ≠ .stuck) :
    exec .idleGap s = done s (s.quiet s.waitSlots) := by
  have hclear : s.endActivity.clearStuck = s.endActivity := by
    rw [State.endActivity_eq]
    exact if_neg hstuck
  have hexec : exec .idleGap s = done s (s.endActivity.clearStuck.setTx { s.endActivity.clearStuck.tx with
      opportunity := some (s.endActivity.clearStuck.tick +
        micros (s.endActivity.clearStuck.waitSlots * s.endActivity.clearStuck.straps.slot)) }) := by
    simp only [exec, execIdleGap, hbusy, if_true]
  rw [hexec, hclear, State.endActivity_eq, Straps.slot_eq]
  rfl

/-- The part after an idle gap that ends STUCK (R48). -/
def State.unstuck (s : State) : State :=
  { s with
    rx := s.quietRx
    tx := { s.tx with
      phase := .ready, stuckWatch := none, crossing := false
      current := s.tx.current.map fun c => { c with backoff := 0 }
      opportunity := some (s.tick + BitVec.ofNat 32
        ((s.own.val + 7 - s.tx.lastSender.val) % 8 * (64 / 2 ^ s.straps.rate.val))) }
    events := { s.events with records := posted s [⟨.busClear, s.own, s.tx.stuckCount, s.tick⟩] } }

theorem exec_idleGap_stuck {s : State} (hbusy : s.rx.monitor = .busy) (hstuck : s.tx.phase = .stuck) :
    exec .idleGap s = done s s.unstuck := by
  have hexec : exec .idleGap s = done s (s.endActivity.clearStuck.setTx { s.endActivity.clearStuck.tx with
      opportunity := some (s.endActivity.clearStuck.tick +
        micros (s.endActivity.clearStuck.waitSlots * s.endActivity.clearStuck.straps.slot)) }) := by
    simp only [exec, execIdleGap, hbusy, if_true]
  have hclear : s.endActivity.clearStuck = (s.endActivity.setTx { s.endActivity.tx with
      phase := .ready
      current := s.endActivity.tx.current.map fun c => { c with backoff := 0 } }).post .busClear s.own s.tx.stuckCount
        s.tick := by
    rw [State.endActivity_eq]
    exact if_pos hstuck
  rw [hexec, hclear, State.endActivity_eq, Straps.slot_eq, State.unstuck, ← State.deferral_eq]
  rfl

/-- A deferral of one slot or more puts the opportunity after the tick. -/
theorem not_reached_deferral (tick : Instant) {d : Nat} (hd : d < 8) (hpos : d ≠ 0) (rate : Fin 4) :
    reached tick (tick + BitVec.ofNat 32 (d * (64 / 2 ^ rate.val))) = false := by
  have hslot : 1 ≤ 64 / 2 ^ rate.val ∧ 64 / 2 ^ rate.val ≤ 64 := by
    match rate with
    | 0 | 1 | 2 | 3 => decide
  have hlow : 1 ≤ d * (64 / 2 ^ rate.val) := Nat.mul_pos (Nat.pos_of_ne_zero hpos) hslot.1
  have hhigh : d * (64 / 2 ^ rate.val) ≤ 7 * 64 := Nat.mul_le_mul (by omega) hslot.2
  generalize d * (64 / 2 ^ rate.val) = n at hlow hhigh
  have hinterval : interval tick (tick + BitVec.ofNat 32 n) = n := by
    unfold interval
    rw [BitVec.toInt_eq_toNat_cond]
    split <;> bv_omega
  rw [reached, hinterval]
  exact decide_eq_false (by omega)

/-- Whether work is pending once STUCK has ended: a CALL may be due again. -/
theorem State.workPending_unstuck {s : State} (h : s.workPending = false)
    (hcall : (s.race.own ≠ .attract ∧ s.race.own ≠ .entered) ∨ s.tx.callTimer ≠ none) :
    s.unstuck.workPending = false := by
  rw [← Bool.not_eq_true, State.workPending_iff] at h ⊢
  refine mt (fun hwork => ?_) h
  rcases hwork with hcurrent | hqueue | ⟨hown, htests⟩
  · refine .inl fun hnone => hcurrent ?_
    show s.tx.current.map _ = none
    rw [hnone]
    rfl
  · exact .inr (.inl hqueue)
  · refine .inr (.inr ⟨hown, htests.imp_right (Or.imp_right fun hdue => ?_)⟩)
    obtain ⟨hlobby, htimer, -⟩ := State.callDue_iff.mp hdue
    rcases hcall with hnot | hnot
    · exact absurd hlobby (not_or.mpr hnot)
    · exact absurd htimer hnot

/-- The loss of the current frame leaves a Transmitter that may begin in that phase. -/
theorem State.phase_loseCurrent_of_ready {s : State} (h : s.tx.phase = .ready) : s.loseCurrent.tx.phase = .ready := by
  unfold State.loseCurrent
  split
  · exact h
  · split
    · show (if s.tx.phase = .backoff then TxPhase.ready else s.tx.phase) = .ready
      rw [h]
      rfl
    · exact h

/-- A current frame that stands keeps its source over the end of STUCK. -/
theorem State.currentStands_unstuck {s : State} (hstuck : s.tx.phase = .stuck) (h : s.currentStands = true) :
    s.unstuck.currentStands = true := by
  unfold State.currentStands at h ⊢
  have hmap : s.unstuck.tx.current = s.tx.current.map fun c => { c with backoff := 0 } := rfl
  rw [hmap]
  cases hcurrent : s.tx.current with
  | none => rfl
  | some c =>
    rw [hcurrent] at h
    have hexists : s.sourceExists c.source = true := by simpa [hstuck] using h
    exact (Bool.or_eq_true _ _).mpr (.inr hexists)

/-- An idle gap that ends STUCK without a candidate, or before the own turn, is followed by no departure. -/
theorem settle_unstuck {s : State}
    (h : s.workPending = true ∨ (s.race.own ≠ .attract ∧ s.race.own ≠ .entered) ∨ s.tx.callTimer ≠ none ∨
      (s.own.val + 7 - s.tx.lastSender.val) % 8 ≠ 0) : settle s s.unstuck = s.unstuck.loseCurrent := by
  unfold settle
  refine if_neg ?_
  rintro ⟨hbefore, hafter, hopen, -⟩
  have hlost : s.unstuck.loseCurrent = s.unstuck := by
    have hnone : s.unstuck.tx.current = none := by
      show s.tx.current.map _ = none
      rw [State.current_of_idle hbefore]
      rfl
    rw [State.loseCurrent, hnone]
  rw [hlost] at hafter hopen
  rcases h with h | h | h | h
  · rw [h] at hbefore
    cases hbefore
  · rw [State.workPending_unstuck hbefore (.inl h)] at hafter
    cases hafter
  · rw [State.workPending_unstuck hbefore (.inr h)] at hafter
    cases hafter
  · have hnot : s.unstuck.lineOpen = false := not_reached_deferral s.tick (Nat.mod_lt _ (by decide)) h s.straps.rate
    rw [hnot] at hopen
    cases hopen

/-- Settles O21: the gap that ends an activity, and the one that ends STUCK. -/
theorem idleGapSetsOpportunity : Obligations.IdleGapSetsOpportunity := by
  refine ⟨fun s hstands hbusy hstuck => ?_, fun s hbusy hstuck => ?_, Straps.durations_eq⟩
  · refine ⟨_, (exec_idleGap hbusy hstuck).trans (done_id hstands rfl), rfl, fun hphase => ?_, fun c hphase hcurrent => ?_⟩
    · have hwait : s.waitSlots = (s.own.val + 7 - s.tx.lastSender.val) % 8 := by
        rw [State.waitSlots, if_neg hphase, Nat.add_zero, State.deferral_eq]
      rw [hwait]
      rfl
    · have hwait : s.waitSlots = (s.own.val + 7 - s.tx.lastSender.val) % 8 + c.backoff := by
        rw [State.waitSlots, if_pos hphase, hcurrent, State.deferral_eq]
        rfl
      rw [hwait]
      rfl
  · obtain ⟨hrace, hevents, hqueue⟩ := settle_no_new_start (s := s) (t := s.unstuck) id
    have heq := settle_eq_of_no_new_start (s := s) (t := s.unstuck) id
    refine ⟨_, exec_idleGap_stuck hbusy hstuck, ?_, by simp [State.unstuck], hqueue, by simp [State.unstuck],
      fun hwork hown hcall hturn => ?_, fun hnot => ?_, by rw [hevents]; rfl, by rw [heq]; rfl⟩
    · rw [heq]
      show s.quietRx = _
      simp [State.quietRx, hstuck]
    · have hown' : s.race.own ≠ .offline := by rcases hown with h | h <;> rw [h] <;> exact nofun
      have hopen : s.unstuck.lineOpen = true := by
        show reached s.tick (s.tick + BitVec.ofNat 32 _) = true
        rw [hturn, Nat.zero_mul, reached, interval]
        simp
      have hcurrent : s.unstuck.tx.current = none := by
        show s.tx.current.map _ = none
        rw [State.current_of_idle hwork]
        rfl
      rw [settle_departs hwork hcurrent (State.candidate_call (State.queue_of_idle (s := s) hwork) hown
        (State.not_eligible_of_idle (s := s) hwork hown').1 hcall nofun) nofun hopen rfl]
      exact begun_depart (s := s) (u := s.unstuck) ⟨.call, 0, 0⟩ rfl
    · rw [settle_unstuck hnot]
      refine ⟨State.phase_loseCurrent_of_ready rfl, ?_, fun hstands => ?_⟩
      · simp [State.unstuck]
      · have hkept : s.unstuck.currentStands = true := by
          exact State.currentStands_unstuck hstuck hstands
        rw [State.loseCurrent_of_stands hkept]
        rfl

end Sys2Proof.Machine
end

section
/-! PROOFS. The collision of an own frame (R44 to R46). -/

namespace Sys2Proof.Machine

open Sys2Proof.Claims

theorem Source.kindCode_eq (x : Source) : x.kindCode = sourceCode x := by
  cases x <;> rfl

/-- The part as a collision leaves it, before the current frame is considered (R44). -/
def State.collided (s : State) : State :=
  { s with
    rx := { s.rx with remains := true }
    tx := { s.tx with
      phase := .ready, current := none, inFlight := none, collisions := satInc s.tx.collisions
      backoffPlace := s.tx.backoffPlace + 1 } }

theorem exec_collision {s : State} (hphase : s.tx.phase = .sending) (hcrossing : s.tx.crossing = false) :
    exec .collision s = done s s.collide := by
  have hexec : exec .collision s = done s
      (if s.tx.crossing then
        (s.setTx { s.tx with collisions := satInc s.tx.collisions, crossing := false }).setRx
          { s.rx with remains := true }
      else if s.tx.phase = .sending then s.collide else s) := rfl
  rw [hexec, hcrossing, if_neg Bool.false_ne_true, if_pos hphase]

/-- A collision clears the current frame where it has none to keep. -/
theorem State.collide_of_lost {s : State}
    (h : s.tx.current = none ∨ ∃ c, s.tx.current = some c ∧ c.collisions < 7 ∧ s.sourceExists c.source = false) :
    s.collide = s.collided := by
  unfold State.collide
  rcases h with hcurrent | ⟨c, hcurrent, hcount, hsource⟩
  · rw [hcurrent]
    rfl
  · simp only [hcurrent]
    rw [if_neg (Nat.not_le.mpr hcount), if_neg (by rw [hsource]; exact Bool.false_ne_true)]
    rfl

/-- The part after a collision whose frame backs off (R44). -/
def State.backedOff (s : State) (c : Current) : State :=
  s.collided.setTx { s.collided.tx with
    phase := .backoff
    current := some ⟨c.source, c.collisions + 1, s.tx.drawBackoff (c.collisions + 1)⟩ }

/-- A collision before the eighth, of a frame whose source exists. -/
theorem State.collide_of_backoff {s : State} {c : Current} (hcurrent : s.tx.current = some c) (hcount : c.collisions < 7)
    (hsource : s.sourceExists c.source = true) :
    s.collide = s.backedOff c := by
  unfold State.collide
  simp only [hcurrent]
  rw [if_neg (Nat.not_le.mpr hcount), if_pos hsource]
  rfl

/-- The eighth collision of a frame. -/
theorem State.collide_of_eighth {s : State} {c : Current} (hcurrent : s.tx.current = some c) (hcount : c.collisions = 7) :
    s.collide = (s.collided.setTx { s.collided.tx with current := some c }).giveUp c.source := by
  unfold State.collide
  simp only [hcurrent]
  rw [if_pos (Nat.le_of_eq hcount.symm)]
  rfl

theorem Transmitter.drawBackoff_lt (t : Transmitter) (c : Nat) : t.drawBackoff c < 2 ^ min c 4 :=
  Nat.mod_lt _ (Nat.pow_pos (by decide))

/-- A state with no current frame, its line not open, is not changed by what follows an event. -/
theorem settle_of_closed_idle {s t : State} (hopportunity : t.tx.opportunity = none) (hcurrent : t.tx.current = none) :
    settle s t = t := by
  rw [settle_closed hopportunity, State.loseCurrent, hcurrent]

/-! ## Giving up (R45) -/

@[simp] theorem Transmitter.dropHead_keeps (t : Transmitter) :
    t.dropHead.drops = t.drops ∧ t.dropHead.collisions = t.collisions ∧ t.dropHead.sequence = t.sequence ∧
      t.dropHead.opportunity = t.opportunity ∧ t.dropHead.slot = t.slot ∧ t.dropHead.callTimer = t.callTimer ∧
      t.dropHead.spacingTimer = t.spacingTimer ∧ t.dropHead.resendTimer = t.resendTimer ∧
      t.dropHead.framesSent = t.framesSent := by
  unfold Transmitter.dropHead
  split <;> simp

/-- What the giving up of a source leaves as it was in the Transmitter. -/
theorem State.tx_giveUpSource (s : State) (x : Source) :
    (s.giveUpSource x).tx.drops = s.tx.drops ∧ (s.giveUpSource x).tx.collisions = s.tx.collisions ∧
      (s.giveUpSource x).tx.sequence = s.tx.sequence ∧ (s.giveUpSource x).tx.opportunity = s.tx.opportunity := by
  cases x with
  | start => simp [State.giveUpSource]
  | withdraw n => simp [State.giveUpSource]
  | car =>
    unfold State.giveUpSource State.giveUpCar
    dsimp only
    split
    · simp
    · simp
    · split
      · simp
      · split <;> simp [Transmitter.emptySlot]
  | resend =>
    unfold State.giveUpSource State.giveUpResend
    dsimp only
    split <;> simp
  | call =>
    unfold State.giveUpSource
    dsimp only
    split <;> simp

theorem State.tx_giveUp (s : State) (x : Source) :
    (s.giveUp x).tx = { (s.giveUpSource x).tx with
      current := none, phase := .ready, drops := satInc (s.giveUpSource x).tx.drops } := rfl

theorem State.race_giveUp (s : State) (x : Source) : (s.giveUp x).race = (s.giveUpSource x).race := rfl

theorem State.records_giveUp (s : State) (x : Source) :
    (s.giveUp x).events.records = posted s [⟨.txDropped, s.own, BitVec.ofNat 16 (sourceCode x), s.tick⟩] := by
  show postRecord (s.giveUpSource x).settings.eventMask (s.giveUpSource x).own
    ⟨.txDropped, (s.giveUpSource x).own, BitVec.ofNat 16 x.kindCode, (s.giveUpSource x).tick⟩
    (s.giveUpSource x).events.records = _
  simp [posted, Source.kindCode_eq]

/-- A control frame that is current, at the head of the queue, leaves it. -/
theorem Transmitter.queue_dropHead {t : Transmitter} {c : ControlFrame} {rest : List ControlFrame} {x : Current}
    (hqueue : t.queue = c :: rest) (hcurrent : t.current = some x) (hsource : x.source.isControl = true) :
    t.dropHead.queue = rest := by
  have hhead : t.headIsCurrent = true := by
    rw [Transmitter.headIsCurrent, hcurrent]
    exact hsource
  rw [Transmitter.dropHead, if_pos hhead, hqueue]
  rfl

/-- The CAR slot of a CAR given up whose content is the one that departed. -/
theorem State.giveUpCar_of_unchanged {s : State} {v : CarValues} (hslot : s.tx.slot.state = .unsent v)
    (hchanged : s.tx.slot.changed = false) :
    s.giveUpCar =
      if s.race.own.resends then
        s.setTx { s.tx with slot := { s.tx.slot with state := .sent v }, resendTimer := s.start resendInterval }
      else s.setTx s.tx.emptySlot := by
  unfold State.giveUpCar
  rw [hslot]
  dsimp only
  rw [hchanged]
  rfl

theorem State.giveUpCar_of_changed {s : State} {v : CarValues} (hslot : s.tx.slot.state = .unsent v)
    (hchanged : s.tx.slot.changed = true) : s.giveUpCar = s := by
  unfold State.giveUpCar
  rw [hslot]
  dsimp only
  rw [hchanged]
  rfl

theorem State.giveUpResend_of_held {s : State} (hslot : s.tx.slot.isEmpty = false) :
    s.giveUpResend = s.setTx { s.tx with resendTimer := s.start resendInterval } := by
  unfold State.giveUpResend
  rw [hslot]
  rfl

theorem CarSlot.isEmpty_of_unsent {c : CarSlot} {v : CarValues} (h : c.state = .unsent v) : c.isEmpty = false := by
  rw [CarSlot.isEmpty, h]

theorem CarSlot.isEmpty_of_sent {c : CarSlot} {v : CarValues} (h : c.state = .sent v) : c.isEmpty = false := by
  rw [CarSlot.isEmpty, h]

/-! ## The statement -/

/-- The part at the eighth collision, before the source is given up. -/
def State.collidedWith (s : State) (c : Current) : State :=
  s.collided.setTx { s.collided.tx with current := some c }

/-- The eighth collision of a frame, the line not open (R45). -/
theorem exec_collision_eighth {s : State} {c : Current} (hphase : s.tx.phase = .sending)
    (hcrossing : s.tx.crossing = false) (hcurrent : s.tx.current = some c) (hcount : c.collisions = 7)
    (hopportunity : s.tx.opportunity = none) :
    exec .collision s = .next ((s.collidedWith c).giveUp c.source) := by
  have hclosed : ((s.collidedWith c).giveUp c.source).tx.opportunity = none := by
    rw [State.tx_giveUp]
    exact ((s.collidedWith c).tx_giveUpSource c.source).2.2.2.trans hopportunity
  rw [exec_collision hphase hcrossing, State.collide_of_eighth hcurrent hcount]
  exact congrArg Host.Outcome.next (settle_of_closed_idle hclosed rfl)

/-- Settles O34: a collision draws a backoff, gives up, loses a removed START, or is counted alone. -/
theorem collisionBacksOffOrGivesUp : Obligations.CollisionBacksOffOrGivesUp := by
  refine ⟨fun s c hphase hcrossing hcurrent hcount hsource hopportunity => ?_,
    fun s c hphase hcrossing hcurrent hcount hopportunity => ?_,
    fun s hphase hcrossing hopportunity hlost => ?_, fun s hstands hcrossing => ?_⟩
  · rw [exec_collision hphase hcrossing, State.collide_of_backoff hcurrent hcount hsource]
    have hkept : (s.backedOff c).currentStands = true := by
      have hsame : (s.backedOff c).sourceExists c.source = s.sourceExists c.source := by
        cases c.source <;> rfl
      rw [State.currentStands]
      show (_ || (s.backedOff c).sourceExists c.source) = true
      rw [hsame, hsource, Bool.or_true]
    exact ⟨s.backedOff c, s.tx.drawBackoff (c.collisions + 1), congrArg Host.Outcome.next
      ((settle_closed (t := s.backedOff c) hopportunity).trans (State.loseCurrent_of_stands hkept)), rfl, rfl,
      s.tx.drawBackoff_lt _⟩
  · obtain ⟨hdrops, hcollisions, hsequence, -⟩ := (s.collidedWith c).tx_giveUpSource c.source
    refine ⟨_, exec_collision_eighth hphase hcrossing hcurrent hcount hopportunity, rfl, rfl,
      congrArg satInc hdrops, hcollisions, hsequence, (s.collidedWith c).records_giveUp c.source,
      fun rest n hsource hqueue => ?_, fun rest hsource hqueue => ?_, fun hsource hown => ?_,
      fun v hsource hslot => ?_, fun v hsource hslot => ?_, fun v hsource hslot hchanged => ?_,
      fun v hsource hslot hchanged hresends => ?_, fun v hsource hslot hchanged hresends => ?_⟩
    · rw [State.tx_giveUp, hsource]
      exact Transmitter.queue_dropHead (t := (s.collidedWith c).tx) hqueue rfl (by rw [hsource]; rfl)
    · rw [State.tx_giveUp, State.race_giveUp, hsource]
      exact ⟨Transmitter.queue_dropHead (t := (s.collidedWith c).tx) hqueue rfl (by rw [hsource]; rfl), rfl⟩
    · have hlobby : (s.collidedWith c).race.own.isLobby = true := OwnState.isLobby_iff.mpr hown
      rw [State.tx_giveUp, hsource, State.giveUpSource, if_pos hlobby]
      rfl
    · rw [State.tx_giveUp, hsource, State.giveUpSource,
        State.giveUpResend_of_held (s := s.collidedWith c) (CarSlot.isEmpty_of_sent hslot)]
      exact ⟨hslot, rfl⟩
    · rw [State.tx_giveUp, hsource, State.giveUpSource,
        State.giveUpResend_of_held (s := s.collidedWith c) (CarSlot.isEmpty_of_unsent hslot)]
      exact ⟨hslot, rfl⟩
    · rw [State.tx_giveUp, hsource, State.giveUpSource, State.giveUpCar_of_changed (s := s.collidedWith c) hslot hchanged]
      exact hslot
    · have hnot : (s.collidedWith c).race.own.resends = false := hresends
      rw [State.tx_giveUp, hsource, State.giveUpSource,
        State.giveUpCar_of_unchanged (s := s.collidedWith c) hslot hchanged, hnot]
      exact ⟨rfl, rfl, rfl, rfl⟩
    · have hdoes : (s.collidedWith c).race.own.resends = true := hresends
      rw [State.tx_giveUp, hsource, State.giveUpSource,
        State.giveUpCar_of_unchanged (s := s.collidedWith c) hslot hchanged, hdoes]
      exact ⟨rfl, rfl, rfl⟩
  · have hcollide : s.collide = s.collided := by
      refine State.collide_of_lost (hlost.imp_right ?_)
      rintro ⟨c, hcurrent, hsource, hcount, hremoved⟩
      refine ⟨c, hcurrent, hcount, ?_⟩
      rw [hsource]
      refine List.any_eq_false.mpr fun x hx htrue => hremoved ?_
      rwa [← of_decide_eq_true htrue]
    rw [exec_collision hphase hcrossing, hcollide]
    exact congrArg Host.Outcome.next (settle_of_closed_idle hopportunity rfl)
  · have hexec : exec .collision s = done s { s with
        rx := { s.rx with remains := true }
        tx := { s.tx with collisions := satInc s.tx.collisions, crossing := false } } := by
      simp only [exec, execCollision, hcrossing, if_true]
      rfl
    exact hexec.trans (done_id hstands rfl)

end Sys2Proof.Machine
end

section
/-! PROOFS. Going online and offline, RESTART, and the entry to a lobby (R50, R74, R78, R79, R96, R97, R173 to R175). -/

namespace Sys2Proof.Machine

open Sys2Proof.Claims

/-! ## The current frame over an event (R46) -/

/-- A current frame stands after an event that no source is lost by. -/
theorem State.currentStands_of_sources {s t : State} (hstands : s.currentStands = true)
    (hcurrent : t.tx.current = s.tx.current) (hphase : s.tx.phase = .sending → t.tx.phase = .sending)
    (hexists : ∀ x, s.sourceExists x = true → t.sourceExists x = true) : t.currentStands = true := by
  unfold State.currentStands at hstands ⊢
  rw [hcurrent]
  cases hc : s.tx.current with
  | none => rfl
  | some c =>
    rw [hc] at hstands
    simp only [Bool.or_eq_true, decide_eq_true_eq] at hstands ⊢
    exact hstands.imp hphase (hexists c.source)

/-- A change of own race state that leaves no lobby and no state that resends takes no source away. -/
theorem State.sourceExists_of_own {s t : State} (hqueue : t.tx.queue = s.tx.queue) (hslot : t.tx.slot = s.tx.slot)
    (hresends : s.race.own.resends = true → t.race.own.resends = true)
    (hlobby : s.race.own.isLobby = true → t.race.own.isLobby = true) (x : Source) :
    s.sourceExists x = true → t.sourceExists x = true := by
  cases x with
  | resend =>
    simp only [State.sourceExists, hslot, Bool.and_eq_true]
    exact And.imp_right hresends
  | call => exact hlobby
  | start =>
    simp only [State.sourceExists, hqueue]
    exact id
  | withdraw n => exact id
  | car =>
    simp only [State.sourceExists, hslot]
    exact id

/-! ## GO_ONLINE (R173) -/

theorem State.goOnline_of_online {s : State} (h : s.race.own ≠ .offline) : s.goOnline = ⟨s, .wrongState, []⟩ := if_pos h

theorem State.goOnline_of_disabled {s : State} (h : s.race.own = .offline) (hphase : s.tx.phase = .disabled) :
    s.goOnline = ⟨s, .disabled, []⟩ := (if_neg (Classical.not_not.mpr h)).trans (if_pos hphase)

/-- The part online, listening (R73, R173). -/
def State.listening (s : State) : State :=
  { s with
    tx := { s.tx with callTimer := none }
    race := { s.race with own := .attract }
    peers := { s.peers with silenceTimer := some (s.tick + 1000000), heard := false, silent := false } }

theorem State.goOnline_of_offline {s : State} (h : s.race.own = .offline) (hphase : s.tx.phase ≠ .disabled) :
    s.goOnline = ⟨s.listening, .ok, []⟩ := (if_neg (Classical.not_not.mpr h)).trans (if_neg hphase)

/-! ## GO_OFFLINE (R50, R74, R96, R174) -/

/-- The WITHDRAW that a race state leaves behind at GO_OFFLINE. -/
def State.withdrawn (s : State) : State := if s.race.own.isRace then s.placeControl (.withdraw 2) else s

theorem State.goOffline_of_offline {s : State} (h : s.race.own = .offline) : s.goOffline = ⟨s, .ok, []⟩ := if_pos h

theorem State.goOffline_of_online {s : State} (h : s.race.own ≠ .offline) :
    s.goOffline = ⟨s.withdrawn.toOffline, .ok, []⟩ := by
  rw [State.goOffline, if_neg h, State.withdrawn]
  split <;> rfl

/-- The part OFFLINE, by what the WITHDRAW leaves. -/
theorem State.toOffline_withdrawn (s : State) :
    s.withdrawn.toOffline = { s with
      tx := s.withdrawn.tx.goOffline, race := Sequencer.initial, peers := PeerTable.initial, lamp := s.lamp.drop
      events := s.withdrawn.events } := by
  unfold State.withdrawn
  split
  · rw [State.placeControl_eq]
    rfl
  · rfl

/-- What the move to OFFLINE leaves of the Transmitter, whatever its current frame. -/
theorem Transmitter.goOffline_keeps (t : Transmitter) :
    slotEmpty t.goOffline ∧ t.goOffline.callTimer = none ∧ t.goOffline.lastSender = t.lastSender ∧
      t.goOffline.sequence = t.sequence ∧ t.goOffline.drops = t.drops ∧ t.goOffline.opportunity = t.opportunity ∧
      t.goOffline.inFlight = t.inFlight := by
  unfold Transmitter.goOffline
  dsimp only
  split
  · simp [slotEmpty, Transmitter.emptySlot]
  · split <;> simp [slotEmpty, Transmitter.emptySlot, Transmitter.dropCurrent]

theorem Transmitter.goOffline_of_idle {t : Transmitter} (h : t.current = none) :
    t.goOffline.current = none ∧ t.goOffline.phase = t.phase := by
  simp [Transmitter.goOffline, Transmitter.emptySlot, h]

theorem Current.isWithdraw_iff {c : Current} : c.isWithdraw = true ↔ ∃ n, c.source = .withdraw n := by
  unfold Current.isWithdraw
  cases c.source <;> simp

/-- A current WITHDRAW stays, any other current frame is dropped. -/
theorem Transmitter.goOffline_of_current {t : Transmitter} {c : Current} (h : t.current = some c) :
    ((∃ n, c.source = .withdraw n) → t.goOffline.current = some c ∧ t.goOffline.phase = t.phase) ∧
      ((∀ n, c.source ≠ .withdraw n) → t.goOffline.current = none ∧
        t.goOffline.phase = if t.phase = .backoff then .ready else t.phase) := by
  unfold Transmitter.goOffline
  simp only [Transmitter.emptySlot, h]
  refine ⟨fun hwithdraw => ?_, fun hother => ?_⟩
  · rw [if_pos (Current.isWithdraw_iff.mpr hwithdraw)]
    exact ⟨rfl, rfl⟩
  · rw [if_neg fun hwithdraw => (Current.isWithdraw_iff.mp hwithdraw).elim hother]
    exact ⟨rfl, rfl⟩

/-- A current frame of an OFFLINE Transmitter stands. -/
theorem State.currentStands_goOffline {s : State} {t : Transmitter} (h : s.tx = t.goOffline) : s.currentStands = true := by
  have hkept : s.tx.current = none ∨ ∃ c n, s.tx.current = some c ∧ c.source = .withdraw n := by
    rw [h]
    cases hcurrent : t.current with
    | none => exact .inl (Transmitter.goOffline_of_idle hcurrent).1
    | some c =>
      obtain ⟨hwithdraw, hother⟩ := Transmitter.goOffline_of_current hcurrent
      by_cases hsource : ∃ n, c.source = .withdraw n
      · obtain ⟨n, hn⟩ := hsource
        exact .inr ⟨c, n, (hwithdraw ⟨n, hn⟩).1, hn⟩
      · exact .inl (hother (not_exists.mp hsource)).1
  unfold State.currentStands
  rcases hkept with hnone | ⟨c, n, hsome, hsource⟩
  · rw [hnone]
  · rw [hsome]
    simp [State.sourceExists, hsource]

theorem start_not_mem_withoutStart (q : List ControlFrame) : ControlFrame.start ∉ withoutStart q := by
  simp [withoutStart]

theorem State.withdrawn_of_race {s : State} (h : s.race.own.isRace = true) :
    s.withdrawn = s.placeControl (.withdraw 2) := if_pos h

theorem State.withdrawn_of_lobby {s : State} (h : s.race.own.isRace = false) : s.withdrawn = s :=
  if_neg (by rw [h]; exact Bool.false_ne_true)

/-- What room made in the queue leaves as it was in the Transmitter. -/
theorem State.tx_makeRoom (s : State) :
    s.makeRoom.tx.current = s.tx.current ∧ s.makeRoom.tx.phase = s.tx.phase ∧
      s.makeRoom.tx.opportunity = s.tx.opportunity ∧ s.makeRoom.tx.inFlight = s.tx.inFlight ∧
      s.makeRoom.tx.lastSender = s.tx.lastSender ∧ s.makeRoom.tx.sequence = s.tx.sequence ∧
      s.makeRoom.tx.slot = s.tx.slot := by
  unfold State.makeRoom
  split
  · simp
  · split <;> simp

/-- What the WITHDRAW leaves as it was in the Transmitter. -/
theorem State.tx_withdrawn (s : State) :
    s.withdrawn.tx.current = s.tx.current ∧ s.withdrawn.tx.phase = s.tx.phase ∧
      s.withdrawn.tx.opportunity = s.tx.opportunity ∧ s.withdrawn.tx.inFlight = s.tx.inFlight ∧
      s.withdrawn.tx.lastSender = s.tx.lastSender ∧ s.withdrawn.tx.sequence = s.tx.sequence := by
  obtain ⟨hcurrent, hphase, hopportunity, hflight, hsender, hsequence, -⟩ := s.tx_makeRoom
  unfold State.withdrawn
  split
  · exact ⟨hcurrent, hphase, hopportunity, hflight, hsender, hsequence⟩
  · exact ⟨rfl, rfl, rfl, rfl, rfl, rfl⟩

/-- The part after GO_OFFLINE, before what follows. -/
def State.offlined (s : State) : State :=
  { s with
    tx := s.began.withdrawn.tx.goOffline, race := Sequencer.initial, peers := PeerTable.initial, lamp := s.lamp.drop
    events := s.began.withdrawn.events, cmd := taken s .ok [] }

theorem entry_initial_cleared (p : Station) : cleared (PeerTable.initial.entries.get p) := by
  rw [PeerTable.initial, Eight.get_replicate]
  exact ⟨rfl, rfl, rfl, rfl, rfl, rfl, rfl, rfl, rfl, rfl, rfl, rfl, rfl⟩

/-- What follows a move to OFFLINE changes the Transmitter alone, and leaves its queue. -/
theorem settle_of_withoutStart {s u : State} {q : List ControlFrame} (h : u.tx.queue = withoutStart q) :
    settle s u = { u with tx := (settle s u).tx } ∧ (settle s u).tx.queue = withoutStart q := by
  have hno : ControlFrame.start ∈ u.tx.queue → ControlFrame.start ∈ s.tx.queue := fun hmem =>
    absurd (h ▸ hmem) (start_not_mem_withoutStart q)
  exact ⟨settle_eq_of_no_new_start hno, (settle_no_new_start hno).2.2.trans h⟩

theorem State.queue_offlined (s : State) : s.offlined.tx.queue = withoutStart s.began.withdrawn.tx.queue :=
  Transmitter.queue_goOffline _

/-- The WITHDRAW of a race state goes at once from an idle part at a line that is open. -/
theorem begun_offlined {s : State} (hidle : idleOpen s) (hrace : s.race.own.isRace = true) :
    begun s (settle s s.offlined) (.withdraw 2) := by
  have hempty : s.tx.queue = [] := State.queue_of_idle hidle.1
  have hwithdrawn : s.began.withdrawn.tx = { s.tx with queue := s.tx.queue ++ [.withdraw 2] } := by
    rw [State.withdrawn_of_race (s := s.began) hrace, State.placeControl_of_room]
    · rfl
    · show s.tx.queue.length < 4
      rw [hempty]
      decide
  have htx : s.offlined.tx = s.began.withdrawn.tx.goOffline := rfl
  obtain ⟨hnone, hphase⟩ := Transmitter.goOffline_of_idle (t := s.began.withdrawn.tx) (by
    rw [hwithdrawn]
    exact State.current_of_idle hidle.1)
  refine begun_of_settle hidle hnone (State.candidate_of_queue (c := .withdraw 2) (rest := []) ?_) nofun ?_ rfl ?_ rfl
  · rw [State.queue_offlined, hwithdrawn, hempty]
    rfl
  · rw [htx, (Transmitter.goOffline_keeps _).2.2.2.2.2.1, hwithdrawn]
  · rw [htx, hphase, hwithdrawn]

/-- GO_OFFLINE outside OFFLINE. -/
theorem exec_goOffline_of_online {s : State} (hidle : s.cmd.unit = .idle) (hown : s.race.own ≠ .offline) :
    exec .goOffline s = .next (settle s s.offlined) := by
  have htake : s.take State.goOffline = s.began.withdrawn.toOffline.setCmd (taken s .ok []) :=
    State.take_eq hidle (State.goOffline_of_online (s := s.began) hown) (by rw [State.toOffline_withdrawn])
  rw [State.toOffline_withdrawn] at htake
  exact congrArg (done s) htake

/-- GO_OFFLINE is followed by nothing, unless a WITHDRAW becomes pending at a line that is open. -/
theorem settle_offlined {s : State}
    (h : s.workPending = true ∨ s.lineOpen = false ∨ s.tx.phase ≠ .ready ∨ s.race.own.isRace = false) :
    settle s s.offlined = s.offlined := by
  refine settle_of_not_begin (State.currentStands_goOffline rfl) ?_
  rintro ⟨hbefore, hafter, hopen, hready⟩
  obtain ⟨hcurrent, hphase, hopportunity, -⟩ := s.began.tx_withdrawn
  obtain ⟨hnone, hphase'⟩ := Transmitter.goOffline_of_idle (hcurrent.trans (State.current_of_idle hbefore))
  have hline : s.offlined.lineOpen = s.lineOpen := by
    have hsame : s.offlined.tx.opportunity = s.tx.opportunity :=
      s.began.withdrawn.tx.goOffline_keeps.2.2.2.2.2.1.trans hopportunity
    rw [State.lineOpen, State.lineOpen, hsame]
    rfl
  rcases h with h | h | h | h
  · rw [hbefore] at h
    cases h
  · rw [hline, h] at hopen
    cases hopen
  · exact h (hphase.symm.trans (hphase'.symm.trans hready))
  · have hqueue : s.offlined.tx.queue = [] := by
      rw [State.queue_offlined, State.withdrawn_of_lobby (s := s.began) h]
      exact congrArg withoutStart (State.queue_of_idle hbefore)
    rw [State.workPending_iff] at hafter
    rcases hafter with hafter | hafter | hafter
    · exact hafter hnone
    · exact hafter hqueue
    · exact hafter.1 rfl

/-- Settles O50: GO_ONLINE and GO_OFFLINE from each own race state. -/
theorem goOnlineAndOffline : Obligations.GoOnlineAndOffline := by
  refine fun s hidle => ⟨fun hstands hown => ?_, fun hstands hown hphase => ?_, fun hown hphase => ?_,
    fun hstands hown => ?_, fun hown => ?_⟩
  · exact done_take_answer hstands hidle (State.goOnline_of_online (s := s.began) hown)
  · exact done_take_answer hstands hidle (State.goOnline_of_disabled (s := s.began) hown hphase)
  · have htake := State.take_eq hidle (State.goOnline_of_offline (s := s.began) hown hphase) rfl
    refine ⟨settle s (s.began.listening.setCmd (taken s .ok [])), congrArg (done s) htake, ?_⟩
    obtain ⟨-, -, hqueue⟩ := settle_no_new_start (s := s) (t := s.began.listening.setCmd (taken s .ok [])) id
    rw [settle_eq_of_no_new_start (s := s) (t := s.began.listening.setCmd (taken s .ok [])) id]
    refine ⟨rfl, ?_, hqueue, fun hopen hslot => ?_, fun hstands hnot => ?_⟩
    · simp [State.listening]
    · rw [← settle_eq_of_no_new_start (s := s) (t := s.began.listening.setCmd (taken s .ok [])) id]
      refine begun_of_settle hopen (State.current_of_idle (s := s) hopen.1)
        (State.candidate_call (State.queue_of_idle (s := s) hopen.1) (.inl rfl) ?_ rfl ?_) nofun rfl rfl rfl rfl
      · refine Bool.eq_false_iff.mpr fun hcar => ?_
        obtain ⟨⟨v, hv⟩, -⟩ := State.carEligible_iff.mp hcar
        exact SlotState.noConfusion (hslot.symm.trans hv)
      · show s.tx.phase ≠ .stuck
        rw [hopen.2.2]
        exact nofun
    · rw [settle_of_not_idleOpen (s := s) (t := s.began.listening.setCmd (taken s .ok []))]
      · rfl
      · rintro ⟨hwork, hopen, hready⟩
        rcases hnot with h | h | h
        · rw [hwork] at h
          cases h
        · rw [hopen] at h
          cases h
        · exact h hready
      · refine State.currentStands_of_sources hstands rfl id (State.sourceExists_of_own rfl rfl ?_ ?_)
        · rw [hown]
          exact nofun
        · exact fun _ => rfl
      · rfl
      · rfl
      · rfl
  · exact done_take_answer hstands hidle (State.goOffline_of_offline (s := s.began) hown)
  · obtain ⟨heq, hqueue⟩ := settle_of_withoutStart (s := s) s.queue_offlined
    obtain ⟨hslot, hcall, hsender, hsequence, hdrops, hopportunity, hflight⟩ :=
      s.began.withdrawn.tx.goOffline_keeps
    obtain ⟨hstate, hmark, hcall', hspacing, hresend, hsender', hsequence', -, -, -, -, -, -, hdrops', -⟩ :=
      tx_settle s s.offlined
    obtain ⟨hcurrent, hphase, hopportunity', hflight', hsender'', hsequence''⟩ := s.began.tx_withdrawn
    have hrace := congrArg State.race heq
    have hpeers := congrArg State.peers heq
    have hentry : ∀ p, cleared ((settle s s.offlined).entry p) := fun p => by
      rw [State.entry, hpeers]
      exact entry_initial_cleared p
    have hevents : (settle s s.offlined).events = s.began.withdrawn.events := by rw [heq]; rfl
    refine ⟨settle s s.offlined, exec_goOffline_of_online hidle hown, ?_, congrArg Sequencer.own hrace,
      congrArg Sequencer.entry hrace, congrArg Sequencer.lobbyTimer hrace, congrArg Sequencer.proposal hrace, ?_,
      hentry, congrArg PeerTable.silenceTimer hpeers, congrArg PeerTable.heard hpeers, congrArg PeerTable.silent hpeers,
      ?_, ?_, hcall'.trans hcall, ?_, ?_, ?_, begun_offlined, fun h => ?_, fun hrace hroom => ?_,
      fun left kept hrace hover => ?_, fun hlobby => ?_⟩
    · rw [heq]
      rfl
    · rw [hrace]
      exact ⟨rfl, rfl, rfl, rfl, rfl, rfl, rfl, rfl, rfl, rfl, rfl⟩
    · rw [congrArg State.lamp heq]
      exact s.lamp.drop_dark
    · obtain ⟨hempty, hnomark, hnospacing, hnoresend⟩ := hslot
      exact ⟨hstate.trans hempty, hmark.trans hnomark, hspacing.trans hnospacing, hresend.trans hnoresend⟩
    · rw [hqueue]
      exact start_not_mem_withoutStart _
    · exact hsender'.trans (hsender.trans hsender'')
    · exact hsequence'.trans (hsequence.trans hsequence'')
    · rw [settle_offlined h]
      refine ⟨hopportunity.trans hopportunity',
        hflight.trans hflight', fun hnone => ?_, fun c hsome => ?_⟩
      · have hgone := Transmitter.goOffline_of_idle (hcurrent.trans hnone)
        exact ⟨hgone.1, hgone.2.trans hphase⟩
      · have hgone := Transmitter.goOffline_of_current (hcurrent.trans hsome)
        rwa [hphase] at hgone
    · have hwithdrawn : s.began.withdrawn = { s.began with tx := { s.tx with queue := s.tx.queue ++ [.withdraw 2] } } :=
        (State.withdrawn_of_race (s := s.began) hrace).trans (State.placeControl_of_room (s := s.began) hroom _)
      have hposted : s.began.withdrawn.events = s.events := by rw [hwithdrawn]; rfl
      have hcounted : s.began.withdrawn.tx.drops = s.tx.drops := by rw [hwithdrawn]
      refine ⟨hevents.trans hposted, hdrops'.trans (hdrops.trans hcounted), ?_⟩
      rw [hqueue, hwithdrawn]
      exact List.filter_append ..
    · obtain ⟨hplaced, hposted, -⟩ := State.placeControl_of_overflows (s := s.began) hover (.withdraw 2)
      rw [← State.withdrawn_of_race (s := s.began) hrace] at hplaced hposted
      refine ⟨hdrops'.trans (hdrops.trans (congrArg Transmitter.drops hplaced)), ?_, ?_, ?_⟩
      · rw [hevents, hposted]
        rfl
      · rw [hevents, hposted]
        rfl
      · rw [hqueue, hplaced]
        exact List.filter_append ..
    · have hwithdrawn := State.withdrawn_of_lobby (s := s.began) hlobby
      have hposted : s.began.withdrawn.events = s.events := by rw [hwithdrawn]; rfl
      have hcounted : s.began.withdrawn.tx.drops = s.tx.drops := by rw [hwithdrawn]; rfl
      refine ⟨hevents.trans hposted, hdrops'.trans (hdrops.trans hcounted), ?_⟩
      rw [hqueue, hwithdrawn]
      rfl

end Sys2Proof.Machine
end

section
/-! PROOFS. RESTART, and the entry to a lobby (R50, R51, R78, R79, R97, R175). -/

namespace Sys2Proof.Machine

open Sys2Proof.Claims

/-! ## RESTART (R50, R51, R97, R175) -/

/-- The part after RESTART. -/
def State.restarted (s : State) : State :=
  { s with
    rx := { s.rx with goodFrames := 0, crcErrors := 0 }
    tx := s.restartTx, peers := PeerTable.initial, race := Sequencer.initial, image := ImageBuilder.initial
    lamp := { LampUnit.initial with blinkTimer := s.lamp.blinkTimer, blinkPhase := s.lamp.blinkPhase }
    events := { s.events with records := [] }, cmd := taken s .ok [] }

/-- RESTART closes the line, so that nothing follows it. -/
theorem exec_restart {s : State} (hidle : s.cmd.unit = .idle) : exec .restart s = .next s.restarted := by
  have htake : s.take State.restart = s.restarted := State.take_eq (u := s.restarted.setCmd s.began.cmd) hidle rfl rfl
  have hexec : exec .restart s = done s (s.take State.restart) := rfl
  rw [hexec, htake]
  exact congrArg Host.Outcome.next (settle_of_closed_idle (t := s.restarted) rfl rfl)

/-- After RESTART work is pending exactly where a race state left a WITHDRAW (R50, R51). -/
theorem State.txState_restarted (s : State) :
    s.restarted.txState = if s.race.own.isRace then .defer else .idle := by
  have hqueue : s.restarted.tx.queue = if s.race.own.isRace then [.withdraw 3] else [] := rfl
  have hstate : s.restarted.txState = if s.restarted.workPending then .defer else .idle := rfl
  have hwork : s.restarted.workPending = s.race.own.isRace := by
    rw [Bool.eq_iff_iff, State.workPending_iff, hqueue]
    cases s.race.own.isRace
    · simp [State.restarted, Sequencer.initial, State.restartTx, Transmitter.initial]
    · simp
  rw [hstate, hwork]

/-- Settles O51: what RESTART keeps and what it sets anew. -/
theorem restartKeepsAndResets : Obligations.RestartKeepsAndResets := fun s hidle =>
  ⟨s.restarted, exec_restart hidle, rfl, rfl, ⟨rfl, rfl, rfl, rfl⟩, rfl, rfl, rfl, rfl, rfl, rfl, rfl,
    s.txState_restarted, rfl, rfl, rfl, rfl, rfl, rfl, entry_initial_cleared, rfl, rfl, rfl, rfl, rfl, rfl, rfl, rfl,
    ⟨rfl, rfl, rfl, rfl, rfl, rfl, rfl, rfl, rfl, rfl, rfl⟩, ⟨rfl, Four.get_replicate none, rfl, rfl⟩,
    Four.get_replicate false, rfl, rfl, rfl⟩

/-! ## ENTER (R78) -/

/-- The part after an accepted ENTER, for what it enters and its result. -/
def State.entered (s : State) (race : LobbyInfo) (r : Result) : State :=
  { s with
    tx := { s.tx with callTimer := none }
    race := { s.race with
      own := .entered, entry := some race
      lobbyTimer := some (s.tick + BitVec.ofNat 32 (s.settings.lobbyWindow * 1000000)), proposal := .none }
    cmd := taken s r [] }

theorem exec_enter_of_other {s : State} (hstands : s.currentStands = true) (hidle : s.cmd.unit = .idle)
    (hown : s.race.own ≠ .attract) : exec .enter s = .next { s with cmd := taken s .wrongState [] } :=
  done_take_answer hstands hidle (if_pos hown)

theorem exec_enter_of_no_laps {s : State} (hstands : s.currentStands = true) (hidle : s.cmd.unit = .idle)
    (hown : s.race.own = .attract) (hlaps : argument s 1 = 0) :
    exec .enter s = .next { s with cmd := taken s .badArgument [] } :=
  done_take_answer hstands hidle ((if_neg (Classical.not_not.mpr hown)).trans (if_pos hlaps))

/-- ENTER takes at most 99 laps (R78). -/
theorem exec_enter {s : State} (hidle : s.cmd.unit = .idle) (hown : s.race.own = .attract) (hlaps : argument s 1 ≠ 0) :
    exec .enter s = .next (settle s (s.entered
      ⟨argument s 0, BitVec.ofNat 8 (min (argument s 1).toNat 99)⟩
      (if (argument s 1).toNat ≤ 99 then .ok else .clamped))) := by
  refine congrArg (done s) ?_
  by_cases hlimit : 100 ≤ (argument s 1).toNat
  · rw [if_neg (by omega), Nat.min_eq_right (by omega)]
    have hwork : s.began.enter = ⟨s.began.enterLobby ⟨argument s 0, 99⟩, .clamped, []⟩ :=
      (if_neg (Classical.not_not.mpr hown)).trans ((if_neg hlaps).trans (if_pos hlimit))
    exact State.take_eq hidle hwork rfl
  · rw [if_pos (by omega), Nat.min_eq_left (by omega)]
    have hwidth : BitVec.ofNat 8 (argument s 1).toNat = (argument s 1).setWidth 8 := rfl
    rw [hwidth]
    have hwork : s.began.enter = ⟨s.began.enterLobby ⟨argument s 0, (argument s 1).setWidth 8⟩, .ok, []⟩ :=
      (if_neg (Classical.not_not.mpr hown)).trans ((if_neg hlaps).trans (if_neg hlimit))
    exact State.take_eq hidle hwork rfl

/-- A CALL is due at once on every way into the lobby states (R37). -/
theorem begun_call_of_lobby {s t : State} (hidle : idleOpen s) (hqueue : t.tx.queue = []) (hcurrent : t.tx.current = none)
    (hown : t.race.own = .attract ∨ t.race.own = .entered) (hcar : t.carEligible = false) (hcall : t.tx.callTimer = none)
    (hopportunity : t.tx.opportunity = s.tx.opportunity) (htick : t.tick = s.tick) (hphase : t.tx.phase = s.tx.phase) :
    begun s (settle s t) .call := by
  refine begun_of_settle hidle hcurrent (State.candidate_call hqueue hown hcar hcall ?_) nofun hopportunity htick hphase rfl
  rw [hphase, hidle.2.2]
  exact nofun

/-! ## CANCEL_ENTRY (R79) -/

/-- The part after an accepted CANCEL_ENTRY. -/
def State.cancelled (s : State) : State :=
  { s with
    tx := { s.removeProposal.tx with callTimer := none }
    race := { s.race with own := .attract, entry := none, lobbyTimer := none, proposal := .none }
    cmd := taken s .ok [] }

theorem exec_cancelEntry_of_other {s : State} (hstands : s.currentStands = true) (hidle : s.cmd.unit = .idle)
    (hown : s.race.own ≠ .entered) : exec .cancelEntry s = .next { s with cmd := taken s .wrongState [] } :=
  done_take_answer hstands hidle (if_pos hown)

/-- The removal of the proposal changes the Transmitter and the proposal alone. -/
theorem State.removeProposal_eq (s : State) :
    s.removeProposal = { s with tx := s.removeProposal.tx, race := { s.race with proposal := .none } } := by
  unfold State.removeProposal
  dsimp only
  split <;> rfl

theorem Transmitter.removeStart_of_idle {t : Transmitter} (h : t.current = none) :
    t.removeStart = { t with queue := withoutStart t.queue } := by
  rw [Transmitter.removeStart, h]

/-- The own START current: its frame may go on, with no current frame behind it. -/
theorem Transmitter.removeStart_of_current {t : Transmitter} {c : Current} (h : t.current = some c)
    (hsource : c.source = .start) :
    t.removeStart = { t with
      queue := withoutStart t.queue, current := none, phase := if t.phase = .backoff then .ready else t.phase } := by
  obtain ⟨source, collisions, backoff⟩ := c
  obtain rfl : source = .start := hsource
  rw [Transmitter.removeStart, h]
  rfl

/-- An idle part gives up its entry with its queue empty as before. -/
theorem State.tx_cancelled_of_idle {s : State} (h : s.workPending = false) :
    s.cancelled.tx = { s.tx with callTimer := none } := by
  have hcurrent := State.current_of_idle h
  have hqueue := State.queue_of_idle h
  have hsame : s.removeProposal.tx = s.tx := by
    rw [State.tx_removeProposal, Transmitter.removeStart_of_idle hcurrent, ite_eq_right_iff]
    intro _
    rw [hqueue]
    show ({ s.tx with queue := [] } : Transmitter) = s.tx
    rw [← hqueue]
  show ({ s.removeProposal.tx with callTimer := none } : Transmitter) = _
  rw [hsame]

theorem exec_cancelEntry {s : State} (hidle : s.cmd.unit = .idle) (hown : s.race.own = .entered) :
    exec .cancelEntry s = .next (settle s s.cancelled) := by
  refine congrArg (done s) ?_
  have htx : s.began.removeProposal.tx = s.removeProposal.tx := by
    rw [State.tx_removeProposal, State.tx_removeProposal]
    rfl
  have hwork : s.began.cancelEntry = ⟨{ s.began with
      tx := { s.removeProposal.tx with callTimer := none }
      race := { s.race with own := .attract, entry := none, lobbyTimer := none, proposal := .none } }, .ok, []⟩ := by
    refine (if_neg (Classical.not_not.mpr hown)).trans ?_
    dsimp only
    rw [State.removeProposal_eq, htx]
    rfl
  exact State.take_eq hidle hwork rfl

/-- Settles O52: ENTER and CANCEL_ENTRY from each own race state. -/
theorem enterAndCancelEntry : Obligations.EnterAndCancelEntry := by
  refine fun s hidle => ⟨fun hstands hown => exec_enter_of_other hstands hidle hown,
    fun hstands hown hlaps => exec_enter_of_no_laps hstands hidle hown hlaps, fun hown hlaps => ?_,
    fun hstands hown => exec_cancelEntry_of_other hstands hidle hown, fun hown => ?_⟩
  · refine ⟨_, exec_enter hidle hown hlaps, ?_⟩
    generalize (⟨argument s 0, BitVec.ofNat 8 (min (argument s 1).toNat 99)⟩ : LobbyInfo) = race
    generalize (if (argument s 1).toNat ≤ 99 then Result.ok else .clamped) = r
    obtain ⟨hrace, -, hqueue⟩ := settle_no_new_start (s := s) (t := s.entered race r) id
    refine ⟨?_, by simp [State.entered], hqueue, congrArg Sequencer.proposal hrace, fun hopen => ?_,
      fun hstands hnot => ?_⟩
    · have hproposal : (settle s (s.entered race r)).race.proposal = .none := congrArg Sequencer.proposal hrace
      rw [hproposal]
      exact settle_eq_of_no_new_start (s := s) (t := s.entered race r) id
    · have hnot : s.race.own ≠ .offline := by rw [hown]; exact nofun
      exact begun_call_of_lobby hopen (State.queue_of_idle (s := s) hopen.1) (State.current_of_idle (s := s) hopen.1)
        (.inr rfl) (State.not_eligible_of_idle (s := s) hopen.1 hnot).1 rfl rfl rfl rfl
    · have hkept : (s.entered race r).currentStands = true := by
        refine State.currentStands_of_sources hstands rfl id (State.sourceExists_of_own rfl rfl ?_ fun _ => rfl)
        rw [hown]
        exact nofun
      rw [settle_of_not_idleOpen (t := s.entered race r) hnot hkept rfl rfl rfl]
      rfl
  · have hqueue : s.cancelled.tx.queue = s.removeProposal.tx.queue := rfl
    have hnonew : ControlFrame.start ∈ s.cancelled.tx.queue → ControlFrame.start ∈ s.tx.queue := by
      rw [hqueue, State.tx_removeProposal]
      split
      · simp [withoutStart]
      · exact id
    obtain ⟨-, -, hkept⟩ := settle_no_new_start hnonew
    refine ⟨_, exec_cancelEntry hidle hown, settle_eq_of_no_new_start hnonew, by simp [State.cancelled], fun hpending => ?_,
      fun c hpending hphase hcurrent hsource => ?_, fun hopen => ?_, fun hnone => ⟨?_, fun hstands hnot => ?_⟩⟩
    · rw [hkept, hqueue, State.tx_removeProposal, if_pos hpending]
      simp [withoutStart]
    · have htx : s.cancelled.tx = { s.tx.removeStart with callTimer := none } := by
        rw [State.cancelled, State.tx_removeProposal, if_pos hpending]
      rw [Transmitter.removeStart_of_current hcurrent hsource, hphase] at htx
      have hsame : settle s s.cancelled = s.cancelled := by
        refine settle_of_not_begin ?_ ?_
        · rw [State.currentStands, htx]
        · rw [htx]
          exact fun h => TxPhase.noConfusion h.2.2.2
      rw [hsame, htx]
      exact ⟨rfl, rfl, rfl⟩
    · have htx := State.tx_cancelled_of_idle hopen.1
      have hnot : s.race.own ≠ .offline := by rw [hown]; exact nofun
      refine begun_call_of_lobby hopen ?_ ?_ (.inl rfl) ?_ ?_ ?_ rfl ?_
      · rw [htx]
        exact State.queue_of_idle hopen.1
      · rw [htx]
        exact State.current_of_idle hopen.1
      · rw [State.carEligible, htx]
        exact (State.not_eligible_of_idle hopen.1 hnot).1
      all_goals rw [htx]
    · rw [hkept, hqueue, State.tx_removeProposal, if_neg (by rw [hnone]; exact nofun)]
    · have htx : s.cancelled.tx = { s.tx with callTimer := none } := by
        rw [State.cancelled, State.tx_removeProposal, if_neg (by rw [hnone]; exact nofun)]
      have hstays : s.cancelled.currentStands = true := by
        refine State.currentStands_of_sources hstands (by rw [htx]) (by rw [htx]; exact id)
          (State.sourceExists_of_own (by rw [htx]) (by rw [htx]) ?_ fun _ => rfl)
        rw [hown]
        exact nofun
      rw [settle_of_not_idleOpen hnot hstays (by rw [htx]) rfl (by rw [htx]), htx]

end Sys2Proof.Machine
end

section
/-! PROOFS. POST_CAR (R14, R36, R170 to R172). -/

namespace Sys2Proof.Machine

open Sys2Proof.Claims

/-! ## The frame history (R14) -/

theorem State.lookupFrame_eq_none_iff {s : State} {n : Word} :
    s.lookupFrame n = none ↔ ∀ e ∈ s.frame.history, e.number ≠ n := by
  simp [State.lookupFrame]

theorem State.mem_history_of_lookupFrame {s : State} {n : Word} {c : Instant} (h : s.lookupFrame n = some c) :
    ⟨n, c⟩ ∈ s.frame.history := by
  obtain ⟨e, hfind, rfl⟩ := Option.map_eq_some_iff.mp h
  have hnumber : e.number = n := by simpa using List.find?_some hfind
  rw [← hnumber]
  exact List.mem_of_find?_eq_some hfind

/-! ## The tests of POST_CAR (R170, R171) -/

theorem OwnState.posts_iff {o : OwnState} : o.posts = true ↔ o = .countdown ∨ o = .racing ∨ o = .finished := by
  cases o <;> simp [OwnState.posts]

theorem State.posts_of_racing {s : State} (h : racing s) : s.race.own.posts ≠ false := by
  rw [OwnState.posts_iff.mpr h]
  exact nofun

theorem surfaceOf_of_high {n : Nat} (h : 3 < n) : surfaceOf n = none := by
  unfold surfaceOf
  split
  case h_5 => rfl
  all_goals omega

/-- A code 0 to 3 names the surface class that has it. -/
theorem surfaceOf_of_code {n : Nat} (h : n ≤ 3) : ∃ surface, surfaceOf n = some surface ∧ surfaceCode surface = n := by
  match n with
  | 0 | 1 | 2 | 3 => exact ⟨_, rfl, rfl⟩

/-- The named frame is earlier than the held one (R171). -/
theorem State.beforeHeld_iff {s : State} {n : Word} :
    s.beforeHeld n = true ↔
      ∃ r held, (s.entry s.own).car = some r ∧ r.heldFrame = some held ∧ 0 < (held - n).toInt := by
  rw [State.beforeHeld, Option.any_eq_true]
  refine ⟨fun ⟨held, hbind, h⟩ => ?_, fun ⟨r, held, hcar, hheld, h⟩ => ⟨held, ?_, decide_eq_true h⟩⟩
  · obtain ⟨r, hcar, hheld⟩ := Option.bind_eq_some_iff.mp hbind
    exact ⟨r, held, hcar, hheld, of_decide_eq_true h⟩
  · exact Option.bind_eq_some_iff.mpr ⟨r, hcar, hheld⟩

/-! ## The car and the reply (R172) -/

theorem outside24_iff (v : Int) : outside24 v = true ↔ (saturate24 v).toInt ≠ v := by
  rw [outside24, Bool.or_eq_true, decide_eq_true_eq, decide_eq_true_eq, saturate24_toInt]
  omega

/-- The reply of POST_CAR as a list of flags. -/
theorem State.postReply_eq (s : State) :
    s.postReply = BitVec.ofNat 16 (flagsNat
      [outside24 (s.argPair 1).toInt, outside24 (s.argPair 3).toInt, outside24 (s.argPair 5).toInt]) := by
  unfold State.postReply
  cases outside24 (s.argPair 1).toInt <;> cases outside24 (s.argPair 3).toInt <;>
    cases outside24 (s.argPair 5).toInt <;> rfl

theorem flagsNat_lt (l : List Bool) : flagsNat l < 2 ^ l.length := by
  induction l with
  | nil => exact Nat.zero_lt_one
  | cons b l ih =>
    have := b.toNat_le
    rw [flagsNat, List.length_cons, Nat.pow_succ]
    omega

theorem State.postReply_lt (s : State) : s.postReply.toNat < 8 := by
  rw [State.postReply_eq, BitVec.toNat_ofNat]
  exact Nat.lt_of_le_of_lt (Nat.mod_le _ _) (flagsNat_lt _)

/-- A bit of the reply tells a coordinate limited. -/
theorem State.getLsbD_postReply (s : State) :
    s.postReply.getLsbD 0 = outside24 (s.argPair 1).toInt ∧ s.postReply.getLsbD 1 = outside24 (s.argPair 3).toInt ∧
      s.postReply.getLsbD 2 = outside24 (s.argPair 5).toInt := by
  rw [State.postReply_eq, getLsbD_flagsNat (by simp), getLsbD_flagsNat (by simp), getLsbD_flagsNat (by simp)]
  exact ⟨rfl, rfl, rfl⟩

/-! ## POST_CAR (R36, R171, R172) -/

/-- The part after an accepted POST_CAR, with the car and the reply. -/
def State.carPosted (s : State) (car : CarValues) (reply : Word) : State :=
  { s with
    tx := { s.tx with slot := ⟨.unsent car, s.tx.slot.finishMark, true⟩ }
    peers := { s.peers with entries := s.peers.entries.set s.own { s.entry s.own with
      car := some ⟨car, BitVec.ofNat 8 s.race.lapCount, (s.entry s.own).finish.isSome, some (argument s 0)⟩ } }
    cmd := taken s (if reply = 0 then .ok else .clamped) [reply] }

theorem State.takePostCar_of_other {s : State} (h : s.race.own.posts = false) :
    s.takePostCar = ⟨s, .wrongState, []⟩ := if_pos h

theorem State.takePostCar_of_surface {s : State} (h : racing s) (hsurface : surfaceOf (s.arg 15).toNat = none) :
    s.takePostCar = ⟨s, .badArgument, []⟩ := by
  rw [State.takePostCar, if_neg (State.posts_of_racing h), hsurface]
  rfl

theorem State.takePostCar_of_frame {s : State} {surface : Surface} (h : racing s)
    (hsurface : surfaceOf (s.arg 15).toNat = some surface) (hframe : s.lookupFrame (s.arg 0) = none) :
    s.takePostCar = ⟨s, .staleFrame, []⟩ := by
  rw [State.takePostCar, if_neg (State.posts_of_racing h), hsurface]
  dsimp only
  rw [hframe]
  rfl

theorem State.takePostCar_of_held {s : State} {surface : Surface} {capture : Instant} (h : racing s)
    (hsurface : surfaceOf (s.arg 15).toNat = some surface) (hframe : s.lookupFrame (s.arg 0) = some capture)
    (hheld : s.beforeHeld (s.arg 0) = true) : s.takePostCar = ⟨s, .staleFrame, []⟩ := by
  rw [State.takePostCar, if_neg (State.posts_of_racing h), hsurface]
  dsimp only
  rw [hframe]
  exact if_pos hheld

theorem State.takePostCar_accepts {s : State} {surface : Surface} {capture : Instant} (h : racing s)
    (hsurface : surfaceOf (s.arg 15).toNat = some surface) (hframe : s.lookupFrame (s.arg 0) = some capture)
    (hheld : s.beforeHeld (s.arg 0) = false) :
    s.takePostCar = ⟨s.acceptCar (s.postedCar capture surface) (s.arg 0),
      if s.postReply = 0 then .ok else .clamped, [s.postReply]⟩ := by
  rw [State.takePostCar, if_neg (State.posts_of_racing h), hsurface]
  dsimp only
  rw [hframe]
  exact if_neg (by rw [hheld]; exact Bool.false_ne_true)

theorem exec_postCar_accepts {s : State} {surface : Surface} {capture : Instant} (hidle : s.cmd.unit = .idle)
    (h : racing s) (hsurface : surfaceOf (argument s 15).toNat = some surface)
    (hframe : s.lookupFrame (argument s 0) = some capture) (hheld : s.beforeHeld (argument s 0) = false) :
    exec .postCar s = .next (settle s (s.carPosted (s.began.postedCar capture surface) s.began.postReply)) :=
  congrArg (done s) (State.take_eq hidle (State.takePostCar_accepts (s := s.began) h hsurface hframe hheld) rfl)

/-- A posted car goes at once from an idle part at a line that is open, unless the spacing still runs. -/
theorem begun_carPosted {s : State} (car : CarValues) (reply : Word) (h : racing s) (hidle : idleOpen s)
    (hspacing : s.tx.spacingTimer = none) : begun s (settle s (s.carPosted car reply)) .car := by
  have hown : s.race.own ≠ .offline := by rcases h with h | h | h <;> rw [h] <;> exact nofun
  exact begun_of_settle hidle (State.current_of_idle (s := s) hidle.1)
    (State.candidate_car (v := car) (State.queue_of_idle (s := s) hidle.1) hown rfl hspacing) nofun rfl rfl rfl rfl

/-- A posted car is otherwise followed by nothing. -/
theorem settle_carPosted {s : State} (car : CarValues) (reply : Word) (h : racing s) (hstands : s.currentStands = true)
    (hnot : ¬ idleOpen s ∨ s.tx.spacingTimer ≠ none) :
    settle s (s.carPosted car reply) = s.carPosted car reply := by
  have hkept : (s.carPosted car reply).currentStands = true := by
    refine State.currentStands_of_sources hstands rfl id fun x => ?_
    cases x with
    | resend =>
      intro hexists
      exact (Bool.and_eq_true_iff.mp hexists).2
    | car => exact fun _ => rfl
    | start => exact id
    | withdraw n => exact id
    | call => exact id
  refine settle_timer hkept rfl rfl rfl (hnot.imp_right fun hspacing => ?_)
  refine State.no_work_of_tests rfl rfl rfl fun _ htests => ?_
  rcases htests with hcar | hresend | hcall
  · exact absurd (State.carEligible_iff.mp hcar).2 hspacing
  · obtain ⟨-, ⟨v, hslot⟩, -⟩ := State.resendEligible_iff.mp hresend
    exact SlotState.noConfusion hslot
  · obtain ⟨hlobby, -⟩ := State.callDue_iff.mp hcall
    rcases h with h | h | h <;> rcases hlobby with hlobby | hlobby <;> exact OwnState.noConfusion (h.symm.trans hlobby)

/-- Settles O53: the frame history, the four refusals of POST_CAR, and the car it stores. -/
theorem postCarStoresCar : Obligations.PostCarStoresCar := by
  refine ⟨fun s n => ⟨State.lookupFrame_eq_none_iff, fun c => State.mem_history_of_lookupFrame⟩, fun s hidle =>
    ⟨fun hstands hcountdown hracing hfinished => ?_, fun hstands h hhigh => ?_, fun hstands h hcode hframe => ?_,
      fun capture r n hstands h hcode hframe hcar hheld hearlier => ?_, fun capture h hcode hframe hlater => ?_⟩⟩
  · refine done_take_answer hstands hidle (State.takePostCar_of_other (s := s.began) ?_)
    rw [← Bool.not_eq_true, OwnState.posts_iff]
    simp [State.began, hcountdown, hracing, hfinished]
  · exact done_take_answer hstands hidle (State.takePostCar_of_surface (s := s.began) h (surfaceOf_of_high hhigh))
  · obtain ⟨surface, hsurface, -⟩ := surfaceOf_of_code hcode
    exact done_take_answer hstands hidle (State.takePostCar_of_frame (s := s.began) h hsurface hframe)
  · obtain ⟨surface, hsurface, -⟩ := surfaceOf_of_code hcode
    exact done_take_answer hstands hidle (State.takePostCar_of_held (s := s.began) h hsurface hframe
      (State.beforeHeld_iff.mpr ⟨r, n, hcar, hheld, hearlier⟩))
  · obtain ⟨surface, hsurface, hsurfacecode⟩ := surfaceOf_of_code hcode
    have hnot : s.beforeHeld (argument s 0) = false := by
      rw [← Bool.not_eq_true, State.beforeHeld_iff]
      rintro ⟨r, held, hcar, hheld, hearlier⟩
      exact absurd hearlier (Int.not_lt.mpr (hlater r held hcar hheld))
    have hno : ControlFrame.start ∈ (s.carPosted (s.began.postedCar capture surface) s.began.postReply).tx.queue →
      ControlFrame.start ∈ s.tx.queue := id
    have heq := settle_eq_of_no_new_start hno
    have hentry : ∀ p, (settle s (s.carPosted (s.began.postedCar capture surface) s.began.postReply)).entry p =
        if p = s.own then { s.entry s.own with
          car := some ⟨s.began.postedCar capture surface, BitVec.ofNat 8 s.race.lapCount,
            (s.entry s.own).finish.isSome, some (argument s 0)⟩ }
        else s.entry p := fun p => by
      rw [heq]
      exact s.entry_setEntry s.own p _
    obtain ⟨hx, hy, hz⟩ := s.began.getLsbD_postReply
    refine ⟨_, s.began.postReply, s.began.postedCar capture surface,
      exec_postCar_accepts hidle h hsurface hframe hnot, by rw [heq]; rfl, by rw [heq]; rfl, fun p hp => ?_, ?_,
      by simp [State.carPosted], by simp [State.carPosted], (settle_no_new_start hno).2.2,
      begun_carPosted _ _ h, fun hstands hquiet => ?_, rfl, saturate24_toInt _, saturate24_toInt _, saturate24_toInt _,
      rfl, rfl, rfl, rfl, rfl, rfl, rfl, hsurfacecode, ?_, ?_, ?_, s.began.postReply_lt⟩
    · rw [hentry, if_neg hp]
    · rw [hentry, if_pos rfl]
    · rw [settle_carPosted _ _ h hstands hquiet]
      rfl
    · rw [hx]
      exact outside24_iff _
    · rw [hy]
      exact outside24_iff _
    · rw [hz]
      exact outside24_iff _

end Sys2Proof.Machine
end

section
/-! PROOFS. The operations that frames and commands share: event posts in order, stations seated, unseated and marked
ELSEWHERE, and the race left (R61, R64, R72, R88, R89, R181). -/

namespace Sys2Proof.Machine

open Sys2Proof.Claims

/-! ## Posts in order (R181) -/

/-- From s to t the Event Queue has taken a list of posts and nothing else. -/
def Posts (s t : State) (l : List EventRecord) : Prop :=
  t.settings = s.settings ∧ t.own = s.own ∧ t.events = { s.events with records := posted s l }

theorem Posts.post (s : State) (k : EventKind) (p : Station) (d : Word) (a : Instant) :
    Posts s (s.post k p d a) [⟨k, p, d, a⟩] := ⟨rfl, rfl, rfl⟩

theorem Posts.trans {s t u : State} {l m : List EventRecord} (h : Posts s t l) (h' : Posts t u m) :
    Posts s u (l ++ m) := by
  obtain ⟨hsettings, hown, hevents⟩ := h
  obtain ⟨hsettings', hown', hevents'⟩ := h'
  refine ⟨hsettings'.trans hsettings, hown'.trans hown, ?_⟩
  rw [hevents', posted, posted, List.foldl_append, hsettings, hown, hevents]
  rfl

theorem Posts.records {s t : State} {l : List EventRecord} (h : Posts s t l) : t.events.records = posted s l := by
  rw [h.2.2]

theorem Posts.enable {s t : State} {l : List EventRecord} (h : Posts s t l) : t.events.enable = s.events.enable := by
  rw [h.2.2]

/-! ## Unseating (R72) -/

/-- The records of PEER_GONE for the LOST stations that a test picks, in rising order. -/
def goneRecords (s : State) (leave : Station → Bool) (stamp : Instant) (l : List Station) : List EventRecord :=
  (l.filter fun p => leave p && decide ((s.entry p).state = .lost)).map fun p => ⟨.peerGone, p, 7, stamp⟩

theorem foldl_gone_eq (before : State) (leave : Station → Bool) (stamp : Instant) (l : List Station) (s : State) :
    l.foldl (fun t p =>
      if leave p && decide ((before.entry p).state = .lost) then t.post .peerGone p 7 stamp else t) s =
      { s with events := { s.events with records := posted s (goneRecords before leave stamp l) } } := by
  induction l generalizing s with
  | nil => rfl
  | cons p l ih =>
    rw [List.foldl_cons, goneRecords, List.filter_cons]
    split
    · rw [ih]
      rfl
    · rw [ih]
      rfl

/-- The part with the entries of the stations that a test picks unseated. -/
def State.unseatEntries (s : State) (leave : Station → Bool) : State :=
  s.mapEntries fun p e => if leave p then e.unseat (s.start presenceTime) else e

/-- Unseating changes the entries and posts PEER_GONE for each LOST station that leaves. -/
theorem State.unseatWhere_eq (s : State) (leave : Station → Bool) (stamp : Instant) :
    s.unseatWhere leave stamp = { s with
      peers := (s.unseatEntries leave).peers
      events := { s.events with records := Claims.posted s (goneRecords s leave stamp stations) } } :=
  foldl_gone_eq s leave stamp stations (s.unseatEntries leave)

/-- The participants that leave at an unseating are those of the manual: peers in a race state, LOST ones with an event. -/
theorem goneRecords_seated (s : State) (leave : Station → Bool) (stamp : Instant) :
    goneRecords s (fun p => s.seated p && leave p) stamp stations = gone s leave stamp := by
  have htest : ∀ p, ((s.seated p && leave p) && decide ((s.entry p).state = .lost)) =
      (leave p && decide (p ≠ s.own) && decide ((s.entry p).state = .lost)) := fun p => by
    unfold State.seated
    cases hstate : (s.entry p).state <;> cases leave p <;> simp [EntryState.isRace]
  rw [goneRecords, gone]
  simp only [htest]

theorem State.entry_unseatEntries (s : State) (leave : Station → Bool) (p : Station) :
    (s.unseatEntries leave).entry p = if leave p then (s.entry p).unseat (some (s.tick + 1000000)) else s.entry p :=
  s.entry_mapEntries (fun p e => if leave p then e.unseat (s.start presenceTime) else e) p

/-- A station outside the race is not touched. -/
theorem Entry.unseat_of_lobby {e : Entry} (timer : Timer) (h : e.state.isRace = false) : e.unseat timer = e := by
  unfold Entry.unseat
  split
  case h_1 | h_2 | h_3 | h_4 => rfl
  all_goals
    rename_i hstate
    rw [hstate] at h
    cases h

/-- A LOST participant that leaves, or one that was never heard, becomes ABSENT. -/
theorem Entry.unseat_toAbsent {e : Entry} (timer : Timer) (hrace : e.state.isRace = true)
    (h : e.state = .lost ∨ e.lastHeard = none) : e.unseat timer = e.toAbsent := by
  unfold Entry.unseat
  split
  case h_5 => rfl
  case h_6 | h_7 | h_8 | h_9 =>
    rename_i hstate
    rw [hstate] at h
    rw [h.resolve_left nofun]
    rfl
  all_goals
    rename_i hstate
    rw [hstate] at hrace
    cases hrace

/-- Any other participant that leaves is PRESENT. -/
theorem Entry.unseat_present {e : Entry} (timer : Timer) (hrace : e.state.isRace = true) (hlost : e.state ≠ .lost)
    (hheard : e.lastHeard.isSome = true) : e.unseat timer = e.unseatPresent timer := by
  unfold Entry.unseat
  split
  case h_5 => exact absurd ‹e.state = .lost› hlost
  case h_6 | h_7 | h_8 | h_9 => exact if_pos hheard
  all_goals
    rename_i hstate
    rw [hstate] at hrace
    cases hrace

/-- A participant unseated, as the manual tells it. -/
theorem Entry.unseated_unseat {e : Entry} {now : Instant} (h : e.state.isRace = true) :
    unseated e (e.unseat (some (now + 1000000))) now := by
  by_cases hgone : e.state = .lost ∨ e.lastHeard = none
  · rw [Entry.unseat_toAbsent _ h hgone]
    refine ⟨fun _ => ⟨rfl, rfl, rfl⟩, fun hlost hheard => ?_, fun _ _ => ⟨rfl, rfl, rfl⟩, rfl, rfl, rfl⟩
    rw [hgone.resolve_left hlost] at hheard
    cases hheard
  · obtain ⟨hlost, hheard⟩ := not_or.mp hgone
    rw [Entry.unseat_present _ h hlost (Option.isSome_iff_ne_none.mpr hheard)]
    exact ⟨fun h => absurd h hlost, fun _ _ => ⟨rfl, rfl, rfl, rfl⟩, fun _ h => absurd h hheard, rfl, rfl, rfl⟩

/-- No station stays in a race state at its unseating. -/
theorem Entry.isRace_unseat (e : Entry) (timer : Timer) : (e.unseat timer).state.isRace = false := by
  cases hrace : e.state.isRace
  · rw [Entry.unseat_of_lobby timer hrace]
    exact hrace
  · by_cases hgone : e.state = .lost ∨ e.lastHeard = none
    · rw [Entry.unseat_toAbsent _ hrace hgone]
      rfl
    · obtain ⟨hlost, hheard⟩ := not_or.mp hgone
      rw [Entry.unseat_present _ hrace hlost (Option.isSome_iff_ne_none.mpr hheard)]
      rfl

/-! ## The race left (R89, R118) -/

/-- The Peer Table after the race is left. -/
def State.leftPeers (s : State) : PeerTable := (s.unseatEntries s.seated).dropOwnCar.peers

/-- Leaving the race. -/
theorem State.leaveRace_eq (s : State) (stamp : Instant) :
    s.leaveRace stamp = { s with
      tx := s.tx.emptySlot, race := s.race.clearRace, peers := s.leftPeers, lamp := s.lamp.drop
      events := { s.events with records := Claims.posted s (gone s (fun _ => true) stamp) } } := by
  have hgone : goneRecords s s.seated stamp stations = gone s (fun _ => true) stamp := by
    rw [← goneRecords_seated]
    simp only [Bool.and_true]
  rw [State.leaveRace, State.unseatWhere_eq, hgone]
  rfl

/-- An entry after the race is left. -/
theorem State.entry_leftPeers (s : State) (p : Station) :
    s.leftPeers.entries.get p =
      if p = s.own then { s.entry s.own with car := none, finish := none }
      else if (s.entry p).state.isRace then (s.entry p).unseat (some (s.tick + 1000000))
      else s.entry p := by
  have hown : (s.unseatEntries s.seated).entry s.own = s.entry s.own := by
    rw [State.entry_unseatEntries, State.seated]
    simp
  have hset : s.leftPeers.entries.get p =
      if p = s.own then { (s.unseatEntries s.seated).entry s.own with car := none, finish := none }
      else (s.unseatEntries s.seated).entry p := (s.unseatEntries s.seated).entry_setEntry s.own p _
  rw [hset, hown]
  by_cases hp : p = s.own
  · rw [if_pos hp, if_pos hp]
  · rw [if_neg hp, if_neg hp, State.entry_unseatEntries, State.seated, decide_eq_true hp, Bool.true_and]

end Sys2Proof.Machine
end

section
/-! PROOFS. QUIT and ACK_RESULTS (R72, R89, R95, R117, R118). -/

namespace Sys2Proof.Machine

open Sys2Proof.Claims

/-- Posts that follow the records of a part's Event Queue. -/
def postsOn (s : State) (records l : List EventRecord) : List EventRecord :=
  l.foldl (fun q r => postRecord s.settings.eventMask s.own r q) records

theorem postsOn_posted (s : State) (l m : List EventRecord) : postsOn s (posted s l) m = posted s (l ++ m) :=
  (List.foldl_append ..).symm

/-- The part after this station has left its race for ATTRACT, from what its WITHDRAW left in the Transmitter and in the
Event Queue. -/
def State.leftBy (s : State) (tx : Transmitter) (records : List EventRecord) : State :=
  { s with
    tx := { tx.emptySlot with callTimer := none }
    race := { s.race.clearRace with own := .attract, entry := none, lobbyTimer := none, proposal := .none }
    peers := s.leftPeers, lamp := s.lamp.drop
    events := { s.events with records := postsOn s records (gone s (fun _ => true) s.tick) }
    cmd := taken s .ok [] }

/-- A race left from a part that differs in the Transmitter, the proposal and the Event Queue. -/
theorem State.leaveForAttract_eq (s : State) (tx : Transmitter) (x : Proposal) (records : List EventRecord) :
    ({ s.began with
        tx := tx, race := { s.race with proposal := x }, events := { s.events with records := records } } :
      State).leaveForAttract.setCmd (taken s .ok []) = s.leftBy tx records := by
  rw [State.leaveForAttract, State.leaveRace_eq, State.leftBy]
  rfl

/-- Room made in the queue keeps some of its frames. -/
theorem State.mem_queue_of_makeRoom {s : State} {c : ControlFrame} (h : c ∈ s.makeRoom.tx.queue) : c ∈ s.tx.queue := by
  unfold State.makeRoom at h
  split at h
  case isTrue => exact h
  case isFalse =>
    split at h
    · rename_i hqueue
      rw [State.tx_overflowControl] at h
      rw [hqueue]
      rcases List.mem_cons.mp h with rfl | h
      · exact List.mem_cons_self
      · exact List.mem_cons_of_mem _ (List.mem_cons_of_mem _ h)
    · exact h
    · rename_i hqueue _ _
      rw [State.tx_overflowControl] at h
      rw [hqueue]
      exact List.mem_cons_of_mem _ h
    · exact h

theorem State.overflowControl_setCmd (s : State) (u : CommandUnit) (left : ControlFrame) (rest : List ControlFrame) :
    (s.setCmd u).overflowControl left rest = (s.overflowControl left rest).setCmd u := by
  unfold State.overflowControl
  dsimp only
  split <;> rfl

theorem State.makeRoom_setCmd (s : State) (u : CommandUnit) : (s.setCmd u).makeRoom = s.makeRoom.setCmd u := by
  unfold State.makeRoom
  simp only [State.tx_setCmd, State.overflowControl_setCmd]
  by_cases hroom : s.tx.queue.length < 4
  · rw [if_pos hroom, if_pos hroom]
  · rw [if_neg hroom, if_neg hroom]
    cases s.tx.headIsCurrent
    · match s.tx.queue with
      | [] | a :: rest => rfl
    · match s.tx.queue with
      | [] | [a] | a :: b :: rest => rfl

/-- A control frame is placed alike whatever the Command Unit does. -/
theorem State.placeControl_setCmd (s : State) (u : CommandUnit) (c : ControlFrame) :
    (s.setCmd u).placeControl c = (s.placeControl c).setCmd u := by
  rw [State.placeControl, State.makeRoom_setCmd]
  rfl

theorem exec_ackResults {s : State} (hidle : s.cmd.unit = .idle) (hown : s.race.own = .results) :
    exec .ackResults s = .next (settle s (s.leftBy s.tx s.events.records)) := by
  have hwork : s.began.ackResults = ⟨s.began.leaveForAttract, .ok, []⟩ := if_neg (Classical.not_not.mpr hown)
  have hleft : s.began.leaveForAttract.setCmd (taken s .ok []) = s.leftBy s.tx s.events.records :=
    s.leaveForAttract_eq s.tx s.race.proposal s.events.records
  rw [← hleft]
  exact congrArg (done s) (State.take_eq hidle hwork (by simp))

theorem exec_quit {s : State} (hidle : s.cmd.unit = .idle) (h : racing s) :
    exec .quit s = .next (settle s (s.leftBy (s.placeControl (.withdraw 1)).tx
      (s.placeControl (.withdraw 1)).events.records)) := by
  have hwork : s.began.quit = ⟨(s.began.placeControl (.withdraw 1)).leaveForAttract, .ok, []⟩ :=
    if_neg (State.posts_of_racing h)
  obtain ⟨x, hx⟩ := s.race_placeControl (.withdraw 1)
  have hevents : (s.placeControl (.withdraw 1)).events =
      { s.events with records := (s.placeControl (.withdraw 1)).events.records } := by
    unfold State.placeControl State.makeRoom State.overflowControl
    dsimp only
    repeat' split
    all_goals rfl
  have hplaced : s.began.placeControl (.withdraw 1) = { s.began with
      tx := (s.placeControl (.withdraw 1)).tx, race := { s.race with proposal := x }
      events := { s.events with records := (s.placeControl (.withdraw 1)).events.records } } := by
    rw [State.began, State.placeControl_setCmd, ← hevents, ← hx, State.placeControl_eq]
    rfl
  rw [← s.leaveForAttract_eq _ x _, ← hplaced]
  exact congrArg (done s) (State.take_eq hidle hwork (by simp))

/-- QUIT and ACK_RESULTS alike: what the Transmitter and the Event Queue hold when the race has been left. -/
theorem exec_leave {s : State} {c : Instr} (hidle : s.cmd.unit = .idle)
    (hc : (c = .quit ∧ racing s) ∨ (c = .ackResults ∧ s.race.own = .results)) :
    ∃ tx records, exec c s = .next (settle s (s.leftBy tx records)) ∧
      (ControlFrame.start ∈ tx.queue → ControlFrame.start ∈ s.tx.queue) ∧
      (c = .quit → tx = (s.placeControl (.withdraw 1)).tx ∧ records = (s.placeControl (.withdraw 1)).events.records) ∧
      (c = .ackResults → tx = s.tx ∧ records = s.events.records) := by
  rcases hc with ⟨rfl, h⟩ | ⟨rfl, h⟩
  · refine ⟨_, _, exec_quit hidle h, fun hmem => ?_, fun _ => ⟨rfl, rfl⟩, nofun⟩
    rw [State.tx_placeControl] at hmem
    rcases List.mem_append.mp hmem with hmem | hmem
    · exact State.mem_queue_of_makeRoom hmem
    · exact ControlFrame.noConfusion (List.mem_singleton.mp hmem)
  · exact ⟨_, _, exec_ackResults hidle h, id, nofun, fun _ => ⟨rfl, rfl⟩⟩

/-- The frame that goes at once when the race is left from an idle part at a line that is open: the WITHDRAW of QUIT, the
CALL of ACK_RESULTS. -/
theorem begun_leftBy {s : State} {tx : Transmitter} {x : Source} (records : List EventRecord) (hidle : idleOpen s)
    (htx : tx.current = none ∧ tx.opportunity = s.tx.opportunity ∧ tx.phase = s.tx.phase)
    (h : (tx.queue = [.withdraw 1] ∧ x = .withdraw 1) ∨ (tx.queue = [] ∧ x = .call)) :
    begun s (settle s (s.leftBy tx records)) x := by
  obtain ⟨hcurrent, hopportunity, hphase⟩ := htx
  rcases h with ⟨hqueue, rfl⟩ | ⟨hqueue, rfl⟩
  · exact begun_of_settle hidle hcurrent (State.candidate_of_queue (c := .withdraw 1) hqueue) nofun hopportunity rfl
      hphase rfl
  · exact begun_call_of_lobby hidle hqueue hcurrent (.inl rfl) rfl rfl hopportunity rfl hphase

/-- Settles O55: QUIT and ACK_RESULTS leave the race for ATTRACT, and unseat its participants. -/
theorem quitAndAckLeaveRace : Obligations.QuitAndAckLeaveRace := by
  refine fun s hidle => ⟨fun hstands hnot => ?_, fun hstands hown => ?_, fun c hc => ?_⟩
  · refine done_take_answer hstands hidle (if_pos ?_)
    show s.race.own.posts = false
    rw [← Bool.not_eq_true, OwnState.posts_iff]
    exact hnot
  · exact done_take_answer hstands hidle (if_pos hown)
  · obtain ⟨tx, records, hexec, hno, hquit, hack⟩ := exec_leave hidle hc
    obtain ⟨hrace, hevents, hqueue⟩ := settle_no_new_start (s := s) (t := s.leftBy tx records) hno
    have heq := settle_eq_of_no_new_start (s := s) (t := s.leftBy tx records) hno
    have hrecords : (settle s (s.leftBy tx records)).events.records =
        postsOn s records (gone s (fun _ => true) s.tick) := congrArg EventQueue.records hevents
    have hentry : ∀ p, (settle s (s.leftBy tx records)).entry p = s.leftPeers.entries.get p := fun p => by
      rw [heq]
      rfl
    have hqueue' : (settle s (s.leftBy tx records)).tx.queue = tx.queue := hqueue
    have hpeer : ∀ p, p ≠ s.own → (s.entry p).state.isRace = true →
        (settle s (s.leftBy tx records)).entry p = (s.entry p).unseat (some (s.tick + 1000000)) := fun p hp hstate => by
      rw [hentry, State.entry_leftPeers, if_neg hp, if_pos hstate]
    refine ⟨_, hexec, by rw [heq]; rfl, by rw [hrace]; rfl, by rw [hrace]; rfl, by rw [hrace]; rfl, ?_, ?_,
      by simp [State.leftBy], by rw [heq]; exact s.lamp.drop_dark, fun h => ?_, fun hopen h => ?_, fun hopen h => ?_,
      fun h => ?_, fun h hroom => ?_, fun left kept h hover => ?_, ?_, ?_, fun p hp hstate => ?_, fun p hp hlost => ?_,
      fun p hp hstate hlost hheard => ?_, fun p hp hstate hheard => ?_⟩
    · rw [hrace]
      exact ⟨rfl, rfl, rfl, rfl, rfl, rfl, rfl, rfl, rfl, rfl, rfl⟩
    · simp [slotEmpty, State.leftBy, Transmitter.emptySlot]
    · rw [hqueue', (hquit h).1, State.tx_placeControl]
      exact List.mem_append_right _ List.mem_cons_self
    · have hempty := State.queue_of_idle hopen.1
      have hplaced := State.placeControl_of_room (s := s) (by rw [hempty]; decide) (.withdraw 1)
      rw [(hquit h).1, hplaced]
      refine begun_leftBy records hopen ⟨State.current_of_idle (s := s) hopen.1, rfl, rfl⟩ (.inl ⟨?_, rfl⟩)
      rw [hempty]
      rfl
    · rw [(hack h).1]
      exact begun_leftBy records hopen ⟨State.current_of_idle hopen.1, rfl, rfl⟩
        (.inr ⟨State.queue_of_idle hopen.1, rfl⟩)
    · obtain ⟨rfl, rfl⟩ := hack h
      exact ⟨hqueue', hrecords⟩
    · obtain ⟨rfl, rfl⟩ := hquit h
      have hplaced := State.placeControl_of_room hroom (.withdraw 1)
      rw [hqueue', hrecords, hplaced]
      exact ⟨rfl, rfl⟩
    · obtain ⟨rfl, rfl⟩ := hquit h
      obtain ⟨hplaced, hpushed, -⟩ := State.placeControl_of_overflows hover (.withdraw 1)
      have hdrops : (settle s (s.leftBy (s.placeControl (.withdraw 1)).tx
          (s.placeControl (.withdraw 1)).events.records)).tx.drops = (s.placeControl (.withdraw 1)).tx.drops := by
        simp [State.leftBy, Transmitter.emptySlot]
      rw [hqueue', hrecords, hdrops, hplaced, hpushed]
      exact ⟨rfl, rfl, postsOn_posted s _ _⟩
    · rw [hentry, State.entry_leftPeers, if_pos rfl]
    · rw [hentry, State.entry_leftPeers, if_pos rfl]
    · rw [hentry, State.entry_leftPeers, if_neg hp, hstate]
      rfl
    · rw [hpeer p hp (by rw [hlost]; rfl), Entry.unseat_toAbsent _ (by rw [hlost]; rfl) (.inl hlost)]
      rfl
    · rw [hpeer p hp hstate, Entry.unseat_present _ hstate hlost hheard]
      exact ⟨rfl, rfl, rfl, rfl, rfl⟩
    · rw [hpeer p hp hstate, Entry.unseat_toAbsent _ hstate (.inr hheard)]
      rfl

end Sys2Proof.Machine
end

section
/-! PROOFS. LAP, the own finish, and the closes that a finish can bring (R99 to R103, R107, R109, R110). -/

namespace Sys2Proof.Machine

open Sys2Proof.Claims

/-! ## The closes that a finish can bring (R107, R109) -/

/-- After a finish that restarts a grace timer whose instant is reached, the race closes by the grace end; all-done is
then not tested again. -/
theorem State.closings_of_grace {s : State} {i : Instant} (hrunning : s.race.own = .racing ∨ s.race.own = .finished)
    (htimer : s.race.graceTimer = some i) (hreached : reached s.tick i = true) :
    (s.closeIfGraceReached true).closeIfAllDone = s.close (some s.graceEnd) false := by
  have hdue : s.race.graceTimer.due s.tick = true := by
    rw [htimer]
    exact hreached
  have hclose : s.closeIfGraceReached true = s.close (some s.graceEnd) false := by
    rw [State.closeIfGraceReached, OwnState.isRunning_iff.mpr hrunning, hdue]
    rfl
  rw [hclose]
  exact State.closeIfAllDone_of_not Bool.false_ne_true

/-- A finish that restarts no grace timer, or one whose instant is to come, brings a close by all-done alone. -/
theorem State.closings_of_no_grace {s : State} {first : Bool} {i : Instant}
    (htimer : first = true → s.race.graceTimer = some i) (h : first = false ∨ reached s.tick i = false) :
    (s.closeIfGraceReached first).closeIfAllDone = s.closeIfAllDone := by
  refine congrArg State.closeIfAllDone (if_neg ?_)
  rw [Bool.and_eq_true, Bool.and_eq_true]
  rintro ⟨⟨hfirst, -⟩, hdue⟩
  rw [htimer hfirst] at hdue
  rcases h with h | h
  · rw [h] at hfirst
    cases hfirst
  · exact absurd (hdue.symm.trans h) (by decide)

/-- A close keeps what the results list reads. -/
theorem State.resultsFor_close (s : State) (limit limit' : Option (BitVec 32)) :
    (s.close limit false).resultsFor limit' = s.resultsFor limit' := by
  rw [State.close_eq]
  exact State.resultsFor_congr rfl (fun _ => rfl) rfl rfl rfl limit'

/-- A finish is followed by one close at most. -/
theorem State.closings_cases (s : State) (first : Bool) :
    (s.closeIfGraceReached first).closeIfAllDone = s ∨
      ∃ limit, (s.closeIfGraceReached first).closeIfAllDone = s.close limit false := by
  by_cases hgrace : (first && s.race.own.isRunning && s.race.graceTimer.due s.tick) = true
  · have hclose : s.closeIfGraceReached first = s.close (some s.graceEnd) false := if_pos hgrace
    rw [hclose]
    exact .inr ⟨_, State.closeIfAllDone_of_not Bool.false_ne_true⟩
  · have hnot : s.closeIfGraceReached first = s := if_neg hgrace
    rw [hnot]
    by_cases hall : s.allDone = true
    · exact .inr ⟨_, State.closeIfAllDone_of_all hall⟩
    · exact .inl (State.closeIfAllDone_of_not hall)

/-- What the closes leave as it was. -/
theorem State.closings_keep (s : State) (first : Bool) :
    let u := (s.closeIfGraceReached first).closeIfAllDone
    (u.tx = s.tx ∨ u.tx = { s.tx with callTimer := none }) ∧ (u.race.own = s.race.own ∨ u.race.own = .results) ∧
      u = { s with tx := u.tx, race := u.race, events := u.events } ∧ u.race.lapCount = s.race.lapCount ∧
      u.race.lapList = s.race.lapList ∧ u.race.earliest = s.race.earliest := by
  dsimp only
  rcases s.closings_cases first with h | ⟨limit, h⟩
  · rw [h]
    exact ⟨.inl rfl, .inl rfl, rfl, rfl, rfl, rfl⟩
  · rw [h, State.close_eq]
    exact ⟨.inr rfl, .inr rfl, rfl, rfl, rfl, rfl⟩

/-- Two steps that leave the same blocks as they were. -/
theorem State.eq_of_kept {t u v : State} (ht : t = { u with tx := t.tx })
    (hu : u = { v with tx := u.tx, race := u.race, events := u.events }) :
    t = { v with tx := t.tx, race := t.race, events := t.events } := by
  obtain ⟨_, _, _, _, _, _, _, _, _, _, _, _, _, _⟩ := t
  obtain ⟨_, _, _, _, _, _, _, _, _, _, _, _, _, _⟩ := u
  obtain ⟨_, _, _, _, _, _, _, _, _, _, _, _, _, _⟩ := v
  simp_all

/-- The part after a close, settled: the results list is that of the state it leaves. -/
theorem settle_close {s v : State} (limit : Option (BitVec 32))
    (hno : ControlFrame.start ∈ v.tx.queue → ControlFrame.start ∈ s.tx.queue) :
    (settle s (v.close limit false)).race = { v.race with
        own := .results, graceTimer := none, limitTimer := none, ceilingTimer := some (v.origin + 2000000000)
        results := some ((settle s (v.close limit false)).resultsFor limit) } ∧
      (settle s (v.close limit false)).events.records =
        posted v [finalRecord v ((settle s (v.close limit false)).resultsFor limit)] := by
  obtain ⟨hrace, hevents, -⟩ := settle_no_new_start (s := s) (t := v.close limit false) hno
  have hresults : (settle s (v.close limit false)).resultsFor limit = v.resultsFor limit := by
    rw [← State.resultsFor_close v limit limit]
    exact State.resultsFor_congr (by rw [hrace]) (by simp) (by simp) (by rw [hrace]) (by rw [hrace]) limit
  rw [hresults, hrace, hevents, State.close_eq]
  exact ⟨rfl, rfl⟩

/-! ## An accepted LAP (R100 to R103) -/

/-- The record of OWN_LAP for a crossing (R102). -/
def lapRecord (s : State) (crossing : BitVec 32) (stamp : Instant) : EventRecord :=
  ⟨.ownLap, s.own, BitVec.ofNat 16 (min 65535 ((crossing - s.race.lapList.getLast?.getD 0).toNat / 10000)), stamp⟩

/-- The record of OWN_FINISHED after a number of laps (R103). -/
def finishRecord (s : State) (laps : Nat) (stamp : Instant) : EventRecord :=
  ⟨.ownFinished, s.own, BitVec.ofNat 16 laps, stamp⟩

/-- The part with a crossing counted, and OWN_LAP posted. -/
def State.lapped (s : State) (crossing : BitVec 32) (stamp : Instant) : State :=
  { s with
    race := { s.race with lapCount := s.race.lapCount + 1, lapList := s.race.lapList ++ [crossing] }
    events := { s.events with records := Claims.posted s [lapRecord s crossing stamp] } }

/-- The part with the own finish written, before the closes it can bring. -/
def State.finishing (s : State) (crossing : BitVec 32) (stamp grace : Instant) (first : Bool) : State :=
  { s with
    tx := { s.tx with callTimer := none, slot := { s.tx.slot with finishMark := true } }
    peers := { s.peers with entries := s.peers.entries.set s.own { s.entry s.own with finish := some crossing } }
    race := { s.race with
      own := .finished
      earliest := if first then some crossing else s.race.earliest
      graceTimer := if first then some grace else s.race.graceTimer }
    events := { s.events with records := Claims.posted s [finishRecord s s.race.lapCount stamp] } }

/-- A crossing that is not the last. -/
theorem State.acceptLap_of_lap {s : State} {r : RaceRecord} (crossing : BitVec 32) (stamp : Instant)
    (hrecord : s.race.record = some r) (h : s.race.lapCount + 1 ≠ r.race.laps.toNat) :
    s.acceptLap crossing stamp = s.lapped crossing stamp := by
  refine if_neg ?_
  show ¬ s.race.record.any _ = true
  rw [hrecord, Option.any_some, decide_eq_true_eq]
  exact h

/-- The last crossing is the own finish. -/
theorem State.acceptLap_of_last {s : State} {r : RaceRecord} (crossing : BitVec 32) (stamp : Instant)
    (hrecord : s.race.record = some r) (h : s.race.lapCount + 1 = r.race.laps.toNat) :
    s.acceptLap crossing stamp = (s.lapped crossing stamp).ownFinishes crossing stamp := by
  refine if_pos ?_
  show s.race.record.any _ = true
  rw [hrecord, Option.any_some, decide_eq_true_eq]
  exact h

/-- A finish written: it is the earliest where it comes before the one held, and starts the grace timer then (R107). -/
theorem State.writeFinish_eq {s : State} {p : Station} {crossing : BitVec 32} {grace : Instant} {first : Bool}
    (hfirst : s.isEarliest crossing = first)
    (hgrace : s.origin + crossing + seconds s.settings.finishGrace + settleMargin = grace) :
    s.writeFinish p crossing = { s with
      peers := { s.peers with entries := s.peers.entries.set p { s.entry p with finish := some crossing } }
      race := { s.race with
        earliest := if first then some crossing else s.race.earliest
        graceTimer := if first then some grace else s.race.graceTimer } } := by
  have hjoin : s.writeFinish p crossing = if s.isEarliest crossing = true then
      (s.setEntry p { s.entry p with finish := some crossing }).setRace { s.race with
        earliest := some crossing
        graceTimer := some (s.origin + crossing + seconds s.settings.finishGrace + settleMargin) }
      else s.setEntry p { s.entry p with finish := some crossing } := rfl
  rw [hjoin, hfirst, hgrace]
  cases first <;> rfl

/-- The own finish, and the closes it can bring. -/
theorem State.ownFinishes_eq {s : State} {crossing : BitVec 32} {stamp grace : Instant} {first : Bool}
    (hfirst : s.isEarliest crossing = first)
    (hgrace : s.origin + crossing + seconds s.settings.finishGrace + settleMargin = grace) :
    s.ownFinishes crossing stamp =
      ((s.finishing crossing stamp grace first).closeIfGraceReached first).closeIfAllDone := by
  unfold State.ownFinishes
  dsimp only
  rw [State.writeFinish_eq hfirst hgrace, hfirst]
  refine congrArg State.closeIfAllDone (congrArg (State.closeIfGraceReached · first) ?_)
  rfl

/-! ## The tests of LAP (R99 to R101) -/

/-- The crossing stamp, from the length of the frame the lap fell in (R100). -/
theorem State.crossingStamp_eq {s : State} {n : Word} {f length : Nat} {c stamp : Instant}
    (hlength : (∃ d, s.lookupFrame (n + 1) = some d ∧ length = (d - c).toNat) ∨
      (s.lookupFrame (n + 1) = none ∧ ∃ d, s.frame.period = some d ∧ length = d.toNat) ∨
      (s.lookupFrame (n + 1) = none ∧ s.frame.period = none ∧ length = 0))
    (hfuture : 0 < interval s.tick (c + BitVec.ofNat 32 (f * length / 256)) → stamp = s.tick)
    (hpast : interval s.tick (c + BitVec.ofNat 32 (f * length / 256)) ≤ 0 →
      stamp = c + BitVec.ofNat 32 (f * length / 256)) : s.crossingStamp n f c = stamp := by
  have hframe : s.frameLength n c = length := by
    unfold State.frameLength
    rcases hlength with ⟨d, hnext, rfl⟩ | ⟨hnext, d, hperiod, rfl⟩ | ⟨hnext, hperiod, rfl⟩
    · rw [hnext]
    · rw [hnext, hperiod]
      rfl
    · rw [hnext, hperiod]
      rfl
  rw [State.crossingStamp, hframe, micros]
  split
  case isTrue h => exact (hfuture h).symm
  case isFalse h => exact (hpast (Int.not_lt.mp h)).symm

theorem State.tooSoon_iff {s : State} {crossing : BitVec 32} :
    s.tooSoon crossing = true ↔ ∃ last, s.race.lapList.getLast? = some last ∧ (crossing - last).toInt < 1000000 := by
  unfold State.tooSoon
  cases s.race.lapList.getLast? <;> simp [-BitVec.toInt_sub]

theorem State.lap_of_other {s : State} (h : s.race.own ≠ .racing) : s.lap = ⟨s, .wrongState, []⟩ := if_pos h

theorem State.lap_of_fraction {s : State} (h : s.race.own = .racing) (hfraction : 255 < (s.arg 1).toNat) :
    s.lap = ⟨s, .badArgument, []⟩ := (if_neg (Classical.not_not.mpr h)).trans (if_pos hfraction)

theorem State.lap_of_no_frame {s : State} (h : s.race.own = .racing) (hfraction : (s.arg 1).toNat ≤ 255)
    (hframe : s.lookupFrame (s.arg 0) = none) : s.lap = ⟨s, .staleFrame, []⟩ := by
  rw [State.lap, if_neg (Classical.not_not.mpr h), if_neg (Nat.not_lt.mpr hfraction), hframe]
  rfl

/-- LAP with a crossing stamp: EARLY, TOO_SOON, or accepted. -/
theorem State.lap_of_frame {s : State} {r : RaceRecord} {c stamp : Instant} (h : s.race.own = .racing)
    (hfraction : (s.arg 1).toNat ≤ 255) (hframe : s.lookupFrame (s.arg 0) = some c) (hrecord : s.race.record = some r)
    (hstamp : s.crossingStamp (s.arg 0) (s.arg 1).toNat c = stamp) :
    s.lap = if interval r.green stamp ≤ 0 then ⟨s, .early, []⟩
      else if s.tooSoon (stamp - r.green) then ⟨s, .tooSoon, []⟩
      else ⟨s.acceptLap (stamp - r.green) stamp, .ok, []⟩ := by
  rw [State.lap, if_neg (Classical.not_not.mpr h), if_neg (Nat.not_lt.mpr hfraction), hframe]
  dsimp only
  rw [hstamp, State.origin_eq hrecord]
  rfl

/-! ## An accepted lap at its take (R102, R103) -/

theorem exec_lap_accepts {s : State} {r : RaceRecord} {c stamp : Instant} (hidle : s.cmd.unit = .idle)
    (hown : s.race.own = .racing) (hfraction : (argument s 1).toNat ≤ 255)
    (hframe : s.lookupFrame (argument s 0) = some c) (hrecord : s.race.record = some r)
    (hstamp : s.crossingStamp (argument s 0) (argument s 1).toNat c = stamp) (hafter : 0 < interval r.green stamp)
    (hspaced : ∀ last, s.race.lapList.getLast? = some last → 1000000 ≤ (stamp - r.green - last).toInt) :
    exec .lap s = .next (settle s ((s.began.acceptLap (stamp - r.green) stamp).setCmd (taken s .ok []))) := by
  have hsoon : ¬ s.began.tooSoon (stamp - r.green) = true := by
    rw [State.tooSoon_iff]
    rintro ⟨last, hlast, hearly⟩
    exact absurd hearly (Int.not_lt.mpr (hspaced last hlast))
  have hwork := State.lap_of_frame (s := s.began) hown hfraction hframe hrecord hstamp
  rw [if_neg (Int.not_le.mpr hafter), if_neg hsoon] at hwork
  exact congrArg (done s) (State.take_eq hidle hwork (by simp))

/-- The part with the last crossing counted, the own finish written and the command taken. -/
def State.lastLap (s : State) (crossing : BitVec 32) (stamp grace : Instant) (first : Bool) : State :=
  ((s.lapped crossing stamp).finishing crossing stamp grace first).setCmd (taken s .ok [])

/-- The closes that a finish can bring know nothing of the Command Unit. -/
theorem State.closings_setCmd (s : State) (c : CommandUnit) (first : Bool) :
    ((s.setCmd c).closeIfGraceReached first).closeIfAllDone =
      ((s.closeIfGraceReached first).closeIfAllDone).setCmd c := by
  have hgrace : (s.setCmd c).closeIfGraceReached first = (s.closeIfGraceReached first).setCmd c := by
    unfold State.closeIfGraceReached
    rw [apply_ite (State.setCmd · c)]
    rfl
  rw [hgrace, State.closeIfAllDone, State.closeIfAllDone, apply_ite (State.setCmd · c)]
  rfl

/-- The last lap of a race. -/
theorem State.acceptLap_began_of_last {s : State} {r : RaceRecord} {stamp grace : Instant} {first : Bool}
    (hrecord : s.race.record = some r) (h : s.race.lapCount + 1 = r.race.laps.toNat)
    (hfirst : s.isEarliest (stamp - r.green) = first)
    (hgrace : grace = stamp + BitVec.ofNat 32 (s.settings.finishGrace * 1000000) + 250000) :
    (s.began.acceptLap (stamp - r.green) stamp).setCmd (taken s .ok []) =
      ((s.lastLap (stamp - r.green) stamp grace first).closeIfGraceReached first).closeIfAllDone := by
  have hgrace' : (s.began.lapped (stamp - r.green) stamp).origin + (stamp - r.green) +
      seconds (s.began.lapped (stamp - r.green) stamp).settings.finishGrace + settleMargin = grace := by
    rw [State.origin_eq (s := s.began.lapped (stamp - r.green) stamp) hrecord, BitVec.add_comm r.green,
      BitVec.sub_add_cancel, hgrace]
    rfl
  rw [State.acceptLap_of_last (s := s.began) _ _ hrecord h, State.ownFinishes_eq
    (s := s.began.lapped (stamp - r.green) stamp) hfirst hgrace', ← State.closings_setCmd]
  rfl

/-- All done after the last lap: every other participant is. -/
theorem State.allDone_lastLap_iff {s : State} {r : RaceRecord} (crossing : BitVec 32) (stamp grace : Instant)
    (first : Bool) (hrecord : s.race.record = some r) :
    (s.lastLap crossing stamp grace first).allDone = true ↔
      ∀ p, inMask r.mask p = true → p ≠ s.own → isDone (s.entry p) := by
  rw [State.allDone_iff (s := s.lastLap crossing stamp grace first) hrecord]
  refine (and_iff_right rfl).trans (forall_congr' fun p => imp_congr_right fun _ => imp_congr_right fun hp => ?_)
  have hentry : (s.lastLap crossing stamp grace first).entry p = s.entry p :=
    (s.entry_setEntry s.own p _).trans (if_neg hp)
  rw [hentry]

/-- The part after the last lap and the closes it can bring. -/
def State.finished (s : State) (crossing : BitVec 32) (stamp grace : Instant) (first : Bool) : State :=
  ((s.lastLap crossing stamp grace first).closeIfGraceReached first).closeIfAllDone

/-- The last lap settled (R102, R103, R107, R109). -/
theorem lastLap_settled {s : State} {r : RaceRecord} (crossing : BitVec 32) (stamp grace : Instant) (first : Bool)
    (hrecord : s.race.record = some r) :
    let t := settle s (s.finished crossing stamp grace first)
    let lap := lapRecord s crossing stamp
    let finish := finishRecord s (s.race.lapCount + 1) stamp
    let graceEnd := crossing + BitVec.ofNat 32 (s.settings.finishGrace * 1000000)
    t = { s with tx := t.tx, peers := t.peers, race := t.race, events := t.events, cmd := taken s .ok [] } ∧
      t.race.lapCount = s.race.lapCount + 1 ∧ t.race.lapList = s.race.lapList ++ [crossing] ∧
      t.entry s.own = { s.entry s.own with finish := some crossing } ∧ (∀ p, p ≠ s.own → t.entry p = s.entry p) ∧
      t.tx.slot.finishMark = true ∧ t.tx.slot.state = s.tx.slot.state ∧
      (∀ v, idleOpen s → s.tx.slot.state = .sent v → s.tx.resendTimer = none → begun s t .resend) ∧
      t.race.earliest = (if first then some crossing else s.race.earliest) ∧
      (first = false ∨ reached s.tick grace = false →
        (∃ p, inMask r.mask p = true ∧ p ≠ s.own ∧ ¬ isDone (s.entry p)) →
        t.race = { s.race with
          own := .finished, lapCount := s.race.lapCount + 1, lapList := s.race.lapList ++ [crossing]
          earliest := if first then some crossing else s.race.earliest
          graceTimer := if first then some grace else s.race.graceTimer } ∧
        t.events.records = posted s [lap, finish]) ∧
      (first = true → reached s.tick grace = true →
        t.race.own = .results ∧ t.race.results = some (t.resultsFor (some graceEnd)) ∧
        t.events.records = posted s ([lap, finish] ++ [finalRecord s (t.resultsFor (some graceEnd))])) ∧
      (first = false ∨ reached s.tick grace = false →
        (∀ p, inMask r.mask p = true → p ≠ s.own → isDone (s.entry p)) →
        t.race.own = .results ∧ t.race.results = some (t.resultsFor none) ∧
        t.events.records = posted s ([lap, finish] ++ [finalRecord s (t.resultsFor none)])) := by
  dsimp only
  obtain ⟨htx, hown, hkeep, hcount, hlist, hearliest⟩ := (s.lastLap crossing stamp grace first).closings_keep first
  have htx' : (s.finished crossing stamp grace first).tx = (s.lastLap crossing stamp grace first).tx :=
    htx.elim id id
  have hno : ControlFrame.start ∈ (s.finished crossing stamp grace first).tx.queue → ControlFrame.start ∈ s.tx.queue := by
    rw [htx']
    exact id
  obtain ⟨hrace, hevents, -⟩ := settle_no_new_start hno
  have heq := settle_eq_of_no_new_start hno
  have hentry : ∀ p, (settle s (s.finished crossing stamp grace first)).entry p =
      if p = s.own then { s.entry s.own with finish := some crossing } else s.entry p := fun p => by
    have hsame : (s.finished crossing stamp grace first).entry p =
        (s.lastLap crossing stamp grace first).entry p := by
      rw [State.finished, hkeep]
      rfl
    rw [heq]
    exact hsame.trans (s.entry_setEntry s.own p _)
  have htimer : first = true → (s.lastLap crossing stamp grace first).race.graceTimer = some grace := fun h => by
    subst h
    rfl
  refine ⟨?_, ?_, ?_, ?_, fun p hp => ?_, ?_, ?_, fun v hidle hslot hresend => ?_, ?_, fun hgrace hleft => ?_,
    fun hfirst hreached => ?_, fun hgrace hall => ?_⟩
  · have hall := State.eq_of_kept heq hkeep
    have hpeers : (settle s (s.finished crossing stamp grace first)).peers =
        (s.lastLap crossing stamp grace first).peers := by rw [hall]
    rw [hpeers]
    exact hall
  · rw [hrace]
    exact hcount
  · rw [hrace]
    exact hlist
  · rw [hentry, if_pos rfl]
  · rw [hentry, if_neg hp]
  · rw [(tx_settle s _).2.1, htx']
    rfl
  · rw [(tx_settle s _).1, htx']
    rfl
  · have hfinished : (s.finished crossing stamp grace first).race.own = .finished ∨
        (s.finished crossing stamp grace first).race.own = .results := hown
    have htick : (s.finished crossing stamp grace first).tick = s.tick := by
      rw [State.finished, hkeep]
      rfl
    have hsent : (s.finished crossing stamp grace first).tx.slot.state = .sent v := by
      rw [htx']
      exact hslot
    refine begun_of_settle hidle ?_ (State.candidate_resend (v := v) ?_ hfinished hsent ?_) nofun ?_ htick ?_ (if_pos ?_)
    · rw [htx']
      exact State.current_of_idle (s := s) hidle.1
    · rw [htx']
      exact State.queue_of_idle (s := s) hidle.1
    · rw [htx']
      exact hresend
    · rw [htx']
      rfl
    · rw [htx']
      rfl
    · rw [CarSlot.isSent, hsent]
  · rw [hrace]
    exact hearliest
  · obtain ⟨p, hmask, hp, hdone⟩ := hleft
    have hnot : ¬ (s.lastLap crossing stamp grace first).allDone = true := fun h =>
      hdone ((State.allDone_lastLap_iff crossing stamp grace first hrecord).mp h p hmask hp)
    rw [hrace, hevents, State.finished, State.closings_of_no_grace htimer hgrace, State.closeIfAllDone_of_not hnot]
    exact ⟨rfl, rfl⟩
  · subst hfirst
    have hclose : s.finished crossing stamp grace true = (s.lastLap crossing stamp grace true).close
        (some (crossing + BitVec.ofNat 32 (s.settings.finishGrace * 1000000))) false :=
      State.closings_of_grace (.inr rfl) rfl hreached
    obtain ⟨hrace', hrecords⟩ := settle_close (s := s) (v := s.lastLap crossing stamp grace true)
      (some (crossing + BitVec.ofNat 32 (s.settings.finishGrace * 1000000))) id
    rw [hclose, hrecords]
    exact ⟨congrArg Sequencer.own hrace', congrArg Sequencer.results hrace', rfl⟩
  · have hdone := (State.allDone_lastLap_iff crossing stamp grace first hrecord).mpr hall
    have hclose : s.finished crossing stamp grace first = (s.lastLap crossing stamp grace first).close none false :=
      (State.closings_of_no_grace htimer hgrace).trans (State.closeIfAllDone_of_all hdone)
    obtain ⟨hrace', hrecords⟩ := settle_close (s := s) (v := s.lastLap crossing stamp grace first) none id
    rw [hclose, hrecords]
    exact ⟨congrArg Sequencer.own hrace', congrArg Sequencer.results hrace', rfl⟩

/-- Settles O54: the crossing stamp, the refusals of LAP, the lap counted, and the own finish with its closes. -/
theorem lapCountsAndFinishes : Obligations.LapCountsAndFinishes := by
  refine fun s hidle hstands => ⟨fun hown => ?_, fun hown hfraction => ?_, fun hown hfraction hframe => ?_,
    fun r c stamp length finish grace first hown hfraction hrecord hframe hlength hfuture hpast hfinish hgrace hfirst =>
      ⟨fun hearly => ?_, fun last hafter hlast hsoon => ?_, fun hafter hspaced => ?_⟩⟩
  · exact done_take_answer hstands hidle (State.lap_of_other (s := s.began) hown)
  · exact done_take_answer hstands hidle (State.lap_of_fraction (s := s.began) hown hfraction)
  · exact done_take_answer hstands hidle (State.lap_of_no_frame (s := s.began) hown hfraction hframe)
  · have hwork := State.lap_of_frame (s := s.began) hown hfraction hframe hrecord
      (State.crossingStamp_eq hlength hfuture hpast)
    rw [if_pos hearly] at hwork
    exact done_take_answer hstands hidle hwork
  · have hwork := State.lap_of_frame (s := s.began) hown hfraction hframe hrecord
      (State.crossingStamp_eq hlength hfuture hpast)
    rw [if_neg (Int.not_le.mpr hafter), ← hfinish, if_pos ((State.tooSoon_iff (s := s.began)).mpr ⟨last, hlast, hsoon⟩)] at hwork
    exact done_take_answer hstands hidle hwork
  · subst hfinish
    have hexec := exec_lap_accepts hidle hown hfraction hframe hrecord (State.crossingStamp_eq hlength hfuture hpast)
      hafter hspaced
    by_cases hlast : s.race.lapCount + 1 = r.race.laps.toNat
    · rw [State.acceptLap_began_of_last hrecord hlast hfirst.symm hgrace] at hexec
      obtain ⟨hkeep, hcount, hlist, hentry, hpeer, hmark, hstate, hresend, hearliest, hquiet, hreached, hall⟩ :=
        lastLap_settled (stamp - r.green) stamp grace first hrecord
      refine ⟨_, hexec, hkeep, hcount, hlist, fun h => absurd hlast h, fun records _ hrecords => ?_⟩
      subst hrecords
      exact ⟨hentry, hpeer, hmark, hstate, hresend, hearliest, hquiet, hreached, hall⟩
    · rw [State.acceptLap_of_lap (s := s.began) (stamp - r.green) stamp hrecord hlast,
        settle_same (t := (s.began.lapped (stamp - r.green) stamp).setCmd (taken s .ok [])) hstands rfl rfl] at hexec
      exact ⟨_, hexec, rfl, rfl, rfl, fun _ => ⟨rfl, rfl, rfl, rfl⟩, fun _ h => absurd h hlast⟩

end Sys2Proof.Machine
end

section
/-! PROOFS. A frame as it departs is read back as it was sent (R22 to R33). -/

namespace Sys2Proof.Machine

open Sys2Proof.Claims

/-! ## Fields taken apart and put together (R22) -/

theorem append_extract2 (x : Word) : x.extractLsb' 8 8 ++ x.extractLsb' 0 8 = x := by
  rw [BitVec.extractLsb'_append_extractLsb'_eq_extractLsb' (by decide)]
  exact BitVec.extractLsb'_eq_self

theorem append_extract3 (x : BitVec 24) :
    x.extractLsb' 16 8 ++ x.extractLsb' 8 8 ++ x.extractLsb' 0 8 = x := by
  rw [BitVec.extractLsb'_append_extractLsb'_eq_extractLsb' (by decide),
    BitVec.extractLsb'_append_extractLsb'_eq_extractLsb' (by decide)]
  exact BitVec.extractLsb'_eq_self

theorem append_extract4 (x : BitVec 32) :
    x.extractLsb' 24 8 ++ x.extractLsb' 16 8 ++ x.extractLsb' 8 8 ++ x.extractLsb' 0 8 = x := by
  rw [BitVec.extractLsb'_append_extractLsb'_eq_extractLsb' (by decide),
    BitVec.extractLsb'_append_extractLsb'_eq_extractLsb' (by decide),
    BitVec.extractLsb'_append_extractLsb'_eq_extractLsb' (by decide)]
  exact BitVec.extractLsb'_eq_self

theorem takeRate_of_sendable {x : Word} (h : x ≠ 0x8000#16) : takeRate x = x := if_neg h

/-! ## The header and the CRC (R22 to R24) -/

theorem Payload.length_bytes (x : Payload) :
    x.bytes.length = match x with
      | .call _ _ => 4
      | .start _ => 7
      | .car c => if c.finishAge.isSome then 34 else 30
      | .withdraw _ => 1 := by
  cases x with
  | car c =>
    obtain ⟨_, _, _, _, _, _, _, _, _, _, _, _, _, _, _, finishAge⟩ := c
    cases finishAge <;> rfl
  | _ => rfl

theorem Payload.length_bytes_le (x : Payload) : x.bytes.length ≤ 34 := by
  rw [Payload.length_bytes]
  split
  case h_3 => split <;> decide
  all_goals decide

theorem BusFrame.length_body (f : BusFrame) : f.body.length = 3 + f.payload.bytes.length := by
  rw [BusFrame.body, List.length_cons, List.length_cons, List.length_cons]
  omega

theorem BusFrame.length_bytes (f : BusFrame) : f.bytes.length = 5 + f.payload.bytes.length := by
  rw [BusFrame.bytes, List.length_append, f.length_body, bytes2]
  show 3 + f.payload.bytes.length + 2 = _
  omega

/-- The bytes before the CRC field are those it was counted over. -/
theorem BusFrame.take_bytes (f : BusFrame) : f.bytes.take (f.bytes.length - 2) = f.body := by
  rw [f.length_bytes, BusFrame.bytes]
  exact List.take_left' (by rw [f.length_body]; omega)

/-- The CRC field holds the CRC. -/
theorem BusFrame.crc_bytes (f : BusFrame) :
    byteAt f.bytes (f.bytes.length - 2) ++ byteAt f.bytes (f.bytes.length - 1) = crc16 f.body := by
  have hlow : byteAt f.bytes (f.bytes.length - 2) = (crc16 f.body).extractLsb' 8 8 := by
    rw [byteAt, f.length_bytes, BusFrame.bytes, getD_append_of_le _ _ (by rw [f.length_body]; omega), f.length_body,
      show 5 + f.payload.bytes.length - 2 - (3 + f.payload.bytes.length) = 0 by omega]
    rfl
  have hhigh : byteAt f.bytes (f.bytes.length - 1) = (crc16 f.body).extractLsb' 0 8 := by
    rw [byteAt, f.length_bytes, BusFrame.bytes, getD_append_of_le _ _ (by rw [f.length_body]; omega), f.length_body,
      show 5 + f.payload.bytes.length - 1 - (3 + f.payload.bytes.length) = 1 by omega]
    rfl
  rw [hlow, hhigh, append_extract2]

theorem BusFrame.byteAt_zero (f : BusFrame) : byteAt f.bytes 0 = f.byte0 := rfl

theorem BusFrame.byteAt_one (f : BusFrame) : byteAt f.bytes 1 = f.sequence := rfl

/-- The length byte holds the payload length. -/
theorem BusFrame.length_byte (f : BusFrame) : (byteAt f.bytes 2).toNat = f.payload.bytes.length := by
  have hlength := f.payload.length_bytes_le
  have hbyte : byteAt f.bytes 2 = BitVec.ofNat 8 f.payload.bytes.length := rfl
  rw [hbyte, BitVec.toNat_ofNat]
  exact Nat.mod_eq_of_lt (by omega)

theorem Payload.kindCode_range (x : Payload) : 1 ≤ x.kindCode ∧ x.kindCode ≤ 4 := by
  cases x <;> exact ⟨Nat.le_of_ble_eq_true rfl, Nat.le_of_ble_eq_true rfl⟩

/-- Header byte 0 as a number. -/
theorem BusFrame.toNat_byte0 (f : BusFrame) :
    f.byte0.toNat = f.payload.kindCode * 16 + f.sender.val * 2 + (if f.raceFlag then 1 else 0) := by
  have hkind := f.payload.kindCode_range
  have hsender := f.sender.isLt
  rw [BusFrame.byte0, BitVec.toNat_ofNat]
  refine Nat.mod_eq_of_lt ?_
  split <;> omega

theorem BusFrame.frameKind_bytes (f : BusFrame) : frameKind f.bytes = f.payload.kindCode := by
  have hsender := f.sender.isLt
  rw [frameKind, f.byteAt_zero, f.toNat_byte0]
  split <;> omega

theorem BusFrame.sender_bytes (f : BusFrame) : Fin.ofNat 8 ((byteAt f.bytes 0).toNat / 2) = f.sender := by
  have hsender := f.sender.isLt
  refine Fin.ext ?_
  rw [f.byteAt_zero, f.toNat_byte0]
  show (_ : Nat) % 8 = _
  split <;> omega

theorem BusFrame.raceFlag_bytes (f : BusFrame) : (byteAt f.bytes 0).getLsbD 0 = f.raceFlag := by
  rw [f.byteAt_zero, BitVec.getLsbD, f.toNat_byte0, Nat.testBit_zero]
  cases f.raceFlag
  · exact decide_eq_false (by rw [if_neg Bool.false_ne_true]; omega)
  · exact decide_eq_true (by rw [if_pos rfl]; omega)

/-! ## The payloads (R28 to R33) -/

/-- The status byte of a CAR, read back (R28, R31). -/
theorem CarReport.status_read (c : CarReport) :
    statusSurface c.status = c.surface ∧ c.status.getLsbD 3 = c.dnf ∧ c.status.getLsbD 4 = c.resend ∧
      c.status.getLsbD 2 = c.finishAge.isSome := by
  unfold CarReport.status
  cases c.surface <;> cases c.finishAge.isSome <;> cases c.dnf <;> cases c.resend <;> decide

/-- A rate taken from its two bytes. -/
theorem takeRate_append {x : Word} (h : x ≠ 0x8000#16) : takeRate (x.extractLsb' 8 8 ++ x.extractLsb' 0 8) = x :=
  (congrArg takeRate (append_extract2 x)).trans (takeRate_of_sendable h)

/-- A CAR, read back behind the three bytes of a header. -/
theorem readCar_bytes (b0 b1 b2 : Byte) (c : CarReport) (tail : List Byte) (h : sendable (.car c)) :
    readCar (b0 :: b1 :: b2 :: (Payload.car c).bytes ++ tail) = c := by
  obtain ⟨hvx, hvy, hvz, hw, hq⟩ := h
  obtain ⟨hsurface, hdnf, hresend, hfinished⟩ := c.status_read
  generalize hstatus : c.status = status at hsurface hdnf hresend hfinished
  obtain ⟨sampleAge, x, y, z, vx, vy, vz, h, w, g, q, surface, dnf, resend, laps, finishAge⟩ := c
  have hfinish : (if status.getLsbD 2 then
      some (field4 (b0 :: b1 :: b2 :: (Payload.car
        ⟨sampleAge, x, y, z, vx, vy, vz, h, w, g, q, surface, dnf, resend, laps, finishAge⟩).bytes ++ tail) 33)
      else none) = finishAge := by
    rw [hfinished]
    cases finishAge with
    | none => rfl
    | some age =>
      simp only [Option.isSome_some, if_true, Payload.bytes, bytes2, bytes3, bytes4, List.cons_append, List.nil_append,
        field4, byteAt, List.getD_cons_succ, List.getD_cons_zero, Nat.reduceAdd, append_extract4]
  simp only [Payload.bytes, hstatus, bytes2, bytes3, bytes4, List.cons_append, List.nil_append] at hfinish ⊢
  simp only [readCar, CarReport.mk.injEq, field2, field3, field4, byteAt, List.getD_cons_succ, List.getD_cons_zero,
    Nat.reduceAdd] at hfinish ⊢
  exact ⟨append_extract3 sampleAge, append_extract3 x, append_extract3 y, append_extract3 z, takeRate_append hvx,
    takeRate_append hvy, takeRate_append hvz, append_extract2 h, takeRate_append hw, append_extract4 g,
    takeRate_append hq, hsurface, hdnf, hresend, trivial, hfinish⟩

/-- The payload of a frame, read back. -/
theorem BusFrame.readPayload_bytes {f : BusFrame} (h : sendable f.payload) :
    readPayload f.bytes f.payload.kindCode = f.payload := by
  obtain ⟨sender, flag, sequence, payload⟩ := f
  cases payload with
  | call entered race =>
    obtain ⟨signature, laps⟩ := race
    have hentered : decide ((if entered then 1#8 else 0#8) = 1#8) = entered := by cases entered <;> rfl
    show Payload.call (decide ((if entered then 1#8 else 0#8) = 1#8))
      ⟨signature.extractLsb' 8 8 ++ signature.extractLsb' 0 8, laps⟩ = _
    rw [hentered, append_extract2]
  | start q =>
    obtain ⟨lead, mask, signature, laps⟩ := q
    show Payload.start ⟨lead.extractLsb' 16 8 ++ lead.extractLsb' 8 8 ++ lead.extractLsb' 0 8, mask,
      ⟨signature.extractLsb' 8 8 ++ signature.extractLsb' 0 8, laps⟩⟩ = _
    rw [append_extract3, append_extract2]
  | car c => exact congrArg Payload.car (readCar_bytes _ sequence _ c _ h)
  | withdraw reason => rfl

/-- The length of a payload agrees with its kind (R28). -/
theorem BusFrame.lengthAgrees_bytes (f : BusFrame) : lengthAgrees f.bytes = true := by
  have hlength := f.length_byte
  rw [Payload.length_bytes] at hlength
  have hkind := f.frameKind_bytes
  obtain ⟨sender, flag, sequence, payload⟩ := f
  rw [lengthAgrees_eq_decide (n := payload.bytes.length)]
  · rw [Payload.length_bytes]
    exact decide_eq_true hlength
  · rw [hkind, Payload.length_bytes]
    cases payload with
    | call entered race => exact .inl ⟨rfl, rfl⟩
    | start q => exact .inr (.inl ⟨rfl, rfl⟩)
    | car c =>
      refine .inr (.inr (.inl ⟨rfl, ?_⟩))
      have hstatus : byteAt (BusFrame.bytes ⟨sender, flag, sequence, .car c⟩) 31 = c.status := rfl
      rw [hstatus, c.status_read.2.2.2]
    | withdraw reason => exact .inr (.inr (.inr ⟨rfl, rfl⟩))

/-- Settles O23: the frame's own bytes pass the four checks, and each field is read back. -/
theorem frameBytesReadBack : Obligations.FrameBytesReadBack := by
  intro f hsendable
  have hlength : f.bytes.length = 5 + (byteAt f.bytes 2).toNat := by rw [f.length_byte, f.length_bytes]
  have hkind := f.payload.kindCode_range
  rw [checkFrame_of_crc (by rw [f.length_bytes]; omega) hlength (by rw [f.take_bytes, f.crc_bytes]), f.frameKind_bytes,
    if_neg (by omega), f.lengthAgrees_bytes]
  refine congrArg Checked.valid ?_
  rw [readFrame, f.sender_bytes, f.raceFlag_bytes, f.byteAt_one, f.frameKind_bytes, f.readPayload_bytes hsendable]

end Sys2Proof.Machine
end

section
/-! PROOFS. A frame from another station at the Peer Table: reception, presence, the link, and what each kind does to
its sender's entry (R24, R25, R54, R57 to R61, R66 to R70, R73). -/

namespace Sys2Proof.Machine

open Sys2Proof.Claims

/-! ## One entry and a run of posts -/

theorem Eight.set_set {α : Type} (t : Eight α) (i : Station) (x y : α) : (t.set i x).set i y = t.set i y := by
  refine Eight.ext_get fun j => ?_
  rw [Eight.get_set, Eight.get_set, Eight.get_set]
  split <;> rfl

/-- The part with one entry replaced and a run of records posted. -/
def State.withEntry (s : State) (p : Station) (e : Entry) (l : List EventRecord) : State :=
  { s with
    peers := { s.peers with entries := s.peers.entries.set p e }
    events := { s.events with records := Claims.posted s l } }

theorem State.entry_withEntry (s : State) (p q : Station) (e : Entry) (l : List EventRecord) :
    (s.withEntry p e l).entry q = if q = p then e else s.entry q := s.entry_setEntry p q e

theorem State.entry_withEntry_self (s : State) (p : Station) (e : Entry) (l : List EventRecord) :
    (s.withEntry p e l).entry p = e := (s.entry_withEntry p p e l).trans (if_pos rfl)

theorem State.withEntry_setEntry (s : State) (p : Station) (e e' : Entry) (l : List EventRecord) :
    (s.withEntry p e l).setEntry p e' = s.withEntry p e' l := by
  have hset : (s.withEntry p e l).peers.entries.set p e' = s.peers.entries.set p e' := Eight.set_set _ p e e'
  rw [State.setEntry, hset]
  rfl

theorem posted_append_singleton (s : State) (l : List EventRecord) (r : EventRecord) :
    posted s (l ++ [r]) = postRecord s.settings.eventMask s.own r (posted s l) := List.foldl_append ..

theorem State.withEntry_post (s : State) (p q : Station) (e : Entry) (l : List EventRecord) (k : EventKind) (d : Word)
    (a : Instant) : (s.withEntry p e l).post k q d a = s.withEntry p e (l ++ [⟨k, q, d, a⟩]) := by
  rw [State.withEntry, State.withEntry, posted_append_singleton]
  rfl

/-- A post that depends on a test. -/
theorem State.withEntry_post_if (s : State) (p q : Station) (e : Entry) (l : List EventRecord) (k : EventKind) (d : Word)
    (a : Instant) {c : Prop} [Decidable c] :
    (if c then (s.withEntry p e l).post k q d a else s.withEntry p e l) =
      s.withEntry p e (l ++ postIf (decide c) ⟨k, q, d, a⟩) := by
  by_cases h : c
  · rw [if_pos h, decide_eq_true h, State.withEntry_post]
    rfl
  · rw [if_neg h, decide_eq_false h, postIf, if_neg Bool.false_ne_true, List.append_nil]

theorem State.withEntry_self (s : State) (p : Station) : s.withEntry p (s.entry p) [] = s := by
  have hset : s.peers.entries.set p (s.entry p) = s.peers.entries := Eight.set_get _ p
  rw [State.withEntry, hset]
  rfl

/-! ## Reception, presence and the link (R57, R59, R73) -/

/-- An entry that a frame has reached: its reception fields, and PRESENT where it was ABSENT. -/
def Entry.heardFrom (e : Entry) (f : BusFrame) (a : Instant) : Entry :=
  { e.receive f a with state := if e.state = .absent then .present else e.state }

theorem State.joinSender_receiveFields (s : State) (f : BusFrame) (a : Instant) :
    (s.receiveFields f a).joinSender f a =
      s.withEntry f.sender ((s.entry f.sender).heardFrom f a) (joined s f a) := by
  have hreceive : s.receiveFields f a = s.withEntry f.sender ((s.entry f.sender).receive f a) [] := rfl
  rw [hreceive, State.joinSender, State.entry_withEntry_self, joined, Entry.heardFrom]
  have hstate : ((s.entry f.sender).receive f a).state = (s.entry f.sender).state := rfl
  rw [hstate]
  by_cases habsent : (s.entry f.sender).state = .absent
  · rw [if_pos habsent, if_pos habsent, decide_eq_true habsent, State.withEntry_setEntry, State.withEntry_post]
    cases hpayload : f.payload <;> rfl
  · rw [if_neg habsent, if_neg habsent, decide_eq_false habsent]
    rfl

/-- The presence timer of a sender left in a lobby state. -/
def Entry.timed (e : Entry) (a : Instant) : Entry :=
  if e.state = .absent ∨ e.state.isRace = true then e else { e with presenceTimer := some (a + 1000000) }

theorem State.withEntry_restartPresence (s : State) (p : Station) (e : Entry) (l : List EventRecord) (a : Instant) :
    (s.withEntry p e l).restartPresence p a = s.withEntry p (e.timed a) l := by
  rw [State.restartPresence, State.entry_withEntry_self, Entry.timed]
  split
  · rfl
  · rw [State.withEntry_setEntry]
    rfl

/-- The part after a frame from another station, with its sender's entry and the records posted before LINK_HEARD. -/
def State.heard (s : State) (f : BusFrame) (a : Instant) (e : Entry) (l : List EventRecord) : State :=
  { s with
    peers := ⟨s.peers.entries.set f.sender e, some (a + 1000000), true, false⟩
    events := { s.events with records := Claims.posted s (l ++ linkHeard s f a) } }

theorem State.withEntry_hearLink (s : State) (f : BusFrame) (a : Instant) (e : Entry) (l : List EventRecord) :
    (s.withEntry f.sender e l).hearLink f a = s.heard f a e l := by
  have hsilent : (s.withEntry f.sender e l).peers.silent = s.peers.silent := rfl
  rw [State.hearLink, hsilent, State.heard, linkHeard]
  cases s.peers.silent
  · rw [postIf, if_neg Bool.false_ne_true, if_neg Bool.false_ne_true, List.append_nil]
    rfl
  · rw [postIf, if_pos rfl, if_pos rfl, posted_append_singleton]
    cases hpayload : f.payload <;> rfl

theorem State.entry_heard (s : State) (f : BusFrame) (a : Instant) (e : Entry) (l : List EventRecord) (p : Station) :
    (s.heard f a e l).entry p = if p = f.sender then e else s.entry p := s.entry_setEntry f.sender p e

/-! ## What each kind does to its sender's entry (R60, R61, R66 to R70) -/

theorem State.withEntry_retire (s : State) (p : Station) (e : Entry) (l : List EventRecord) (d : Word) (a : Instant) :
    (s.withEntry p e l).retire p d a =
      if e.state.isRace = true ∧ e.state ≠ .retired then
        s.withEntry p { e with state := .retired, lostTimer := none } (l ++ [⟨.peerRetired, p, d, a⟩])
      else s.withEntry p e l := by
  rw [State.retire, State.entry_withEntry_self, State.withEntry_setEntry, State.withEntry_post]

theorem State.withEntry_toElsewhere (s : State) (p : Station) (e : Entry) (l : List EventRecord) :
    (s.withEntry p e l).toElsewhere p =
      if e.state = .present ∨ e.state = .entered then s.withEntry p { e with state := .elsewhere } l
      else s.withEntry p e l := by
  rw [State.toElsewhere, State.entry_withEntry_self, State.withEntry_setEntry]

theorem State.withEntry_hearCall (s : State) (p : Station) (e : Entry) (l : List EventRecord) (entered : Bool)
    (race : LobbyInfo) (a : Instant) :
    (s.withEntry p e l).hearCall p entered race a =
      if e.state = .present ∧ entered = true then
        s.withEntry p { e with lobby := some race, state := e.state.afterCall entered }
          (l ++ [⟨.peerEntered, p, race.laps.setWidth 16, a⟩])
      else if e.state = .entered ∧ entered = false then
        s.withEntry p { e with lobby := some race, state := e.state.afterCall entered } (l ++ [⟨.peerLeftLobby, p, 0, a⟩])
      else (s.withEntry p { e with lobby := some race, state := e.state.afterCall entered } l).retire p 0 a := by
  rw [State.hearCall, State.entry_withEntry_self, State.withEntry_setEntry, State.withEntry_post, State.withEntry_post]

/-- The records of an accepted CAR (R67, R69). -/
def carRecords (e : Entry) (p : Station) (c : CarReport) (a : Instant) : List EventRecord :=
  postIf (decide (e.state = .lost)) ⟨.peerReturned, p, c.laps.setWidth 16, a⟩ ++
    postIf (c.finishAge.isSome && (decide (e.state = .racing) || (decide (e.state = .lost) && e.finish.isNone)))
      ⟨.peerFinished, p, c.laps.setWidth 16, a⟩

theorem State.withEntry_hearCar (s : State) (p : Station) (e : Entry) (l : List EventRecord) (c : CarReport)
    (a : Instant) :
    (s.withEntry p e l).hearCar p c a =
      if e.state.acceptsCar then
        s.withEntry p { e.storeCar s.settings c a with state := e.state.afterCar c.finishAge.isSome }
          (l ++ carRecords e p c a)
      else (s.withEntry p e l).toElsewhere p := by
  have hfinished : (c.finishAge.isSome && (decide (e.state = .racing) || (decide (e.state = .lost) && e.finish.isNone))) =
      decide (c.finishAge.isSome = true ∧ (e.state = .racing ∨ (e.state = .lost ∧ e.finish = none))) := by
    rw [Bool.eq_iff_iff]
    simp
  have hsettings : (s.withEntry p e l).settings = s.settings := rfl
  rw [State.hearCar, State.entry_withEntry_self, carRecords, hfinished, ← List.append_assoc]
  refine ite_congr rfl (fun _ => ?_) fun _ => rfl
  dsimp only
  rw [hsettings, State.withEntry_setEntry]
  rw [State.withEntry_post_if, State.withEntry_post_if]

/-! ## The frame heard (R24, R25, R54) -/

/-- The part with a valid frame counted, before it is handed on. -/
def State.receiving (s : State) (f : BusFrame) : State :=
  { s with rx := afterGood s.rx, tx := { s.tx with lastSender := f.sender } }

theorem exec_frameCompletion_of_assembling {s : State} {a : Instant} {bytes : List Byte} {f : BusFrame}
    (hassembling : assembling s a) (hcheck : checkFrame bytes = .valid f)
    (hphase : ¬ (s.tx.phase = .sending ∧ f.sender = s.own)) :
    exec (.frameCompletion bytes) s = done s (s.hear f a) := by
  obtain ⟨⟨r, harrival, ha⟩, hcrossing⟩ := hassembling
  rw [exec_frameCompletion_valid harrival hphase hcrossing hcheck, State.busInstant, Straps.receiveDelay_eq, ha]

/-- A frame from another station, heard outside OFFLINE. -/
theorem exec_heard {s : State} {a : Instant} {bytes : List Byte} {f : BusFrame} (hassembling : assembling s a)
    (hcheck : checkFrame bytes = .valid f) (hsender : f.sender ≠ s.own) (hown : s.race.own ≠ .offline) :
    exec (.frameCompletion bytes) s = done s ((s.receiving f).handOn f a) := by
  rw [exec_frameCompletion_of_assembling hassembling hcheck fun h => hsender h.2]
  refine congrArg (done s) ?_
  exact (if_neg hsender).trans (if_neg hown)

/-- The handing on of a frame, by what its kind does to its sender's entry. -/
theorem State.handOn_eq {s : State} {f : BusFrame} {a : Instant} {e : Entry} {l : List EventRecord}
    (h : (s.withEntry f.sender ((s.entry f.sender).heardFrom f a) (joined s f a)).hearPayload f.sender f.payload a =
      s.withEntry f.sender e l) :
    s.handOn f a =
      if s.testsDone ((s.heard f a (e.timed a) l).hearReport f.sender f.payload a) f.sender then
        ((s.heard f a (e.timed a) l).hearReport f.sender f.payload a).closeIfAllDone
      else (s.heard f a (e.timed a) l).hearReport f.sender f.payload a := by
  unfold State.handOn
  simp only [State.joinSender_receiveFields, h, State.withEntry_restartPresence, State.withEntry_hearLink]

/-! ## The sender's entry (R57, R59) -/

theorem Entry.heardFrom_of_car {e : Entry} {f : BusFrame} {c : CarReport} (a : Instant) (h : f.payload = .car c) :
    e.heardFrom f a = { e with
      state := if e.state = .absent then .present else e.state
      lastHeard := some a, lastSequence := some f.sequence, raceFlag := f.raceFlag
      window := shiftWindow e.window e.lastSequence f.sequence
      dnf := c.dnf, resend := c.resend } := by
  rw [Entry.heardFrom, Entry.receive, h]

theorem Entry.heardFrom_of_not_car {e : Entry} {f : BusFrame} (a : Instant) (h : ∀ c, f.payload ≠ .car c) :
    e.heardFrom f a = { e with
      state := if e.state = .absent then .present else e.state
      lastHeard := some a, lastSequence := some f.sequence, raceFlag := f.raceFlag
      window := shiftWindow e.window e.lastSequence f.sequence } := by
  rw [Entry.heardFrom, Entry.receive]
  cases hpayload : f.payload with
  | car c => exact absurd hpayload (h c)
  | _ => rfl

theorem Entry.received_heardFrom (e : Entry) (f : BusFrame) (a : Instant) : received e (e.heardFrom f a) f a :=
  ⟨rfl, rfl, rfl, rfl⟩

theorem Entry.timed_of_race {e : Entry} (a : Instant) (h : e.state.isRace = true) : e.timed a = e := if_pos (.inr h)

theorem Entry.timed_of_lobby {e : Entry} (a : Instant)
    (h : e.state = .present ∨ e.state = .entered ∨ e.state = .elsewhere) :
    e.timed a = { e with presenceTimer := some (a + 1000000) } := by
  refine if_neg ?_
  rcases h with h | h | h <;> rw [h] <;> decide

/-- What the presence timer leaves of an entry. -/
theorem Entry.timed_keeps (e : Entry) (a : Instant) :
    (e.timed a).state = e.state ∧ (e.timed a).finish = e.finish ∧ (e.timed a).car = e.car ∧
      (e.timed a).lastHeard = e.lastHeard := by
  unfold Entry.timed
  split <;> exact ⟨rfl, rfl, rfl, rfl⟩

/-- A sender that is not in our race is in a lobby state once it has been heard. -/
theorem Entry.heardFrom_lobby {e : Entry} {f : BusFrame} {a : Instant} (h : e.state.isRace = false) :
    (e.heardFrom f a).state = .present ∨ (e.heardFrom f a).state = .entered ∨
      (e.heardFrom f a).state = .elsewhere := by
  have hstate : (e.heardFrom f a).state = if e.state = .absent then .present else e.state := rfl
  rw [hstate]
  generalize e.state = st at h
  cases st <;> simp [EntryState.isRace] at h ⊢

theorem Entry.heardFrom_race {e : Entry} {f : BusFrame} {a : Instant} (h : e.state.isRace = true) :
    (e.heardFrom f a).state = e.state := by
  refine if_neg fun habsent => ?_
  rw [habsent] at h
  cases h

/-! ## The test for all done, and frames that leave the race alone (R54, R109) -/

theorem State.testsDone_heard_iff {s : State} {f : BusFrame} {a : Instant} {e : Entry} {l : List EventRecord} :
    s.testsDone (s.heard f a e l) f.sender = true ↔
      (e.state ≠ (s.entry f.sender).state ∧ e.state.isDone = true) ∨ e.finish ≠ (s.entry f.sender).finish := by
  have hentry : (s.heard f a e l).entry f.sender = e := (s.entry_heard f a e l f.sender).trans (if_pos rfl)
  rw [State.testsDone, hentry, Bool.or_eq_true, Bool.and_eq_true, decide_eq_true_eq, decide_eq_true_eq]

/-- A frame that leaves the Race Sequencer alone and finishes no participant. -/
theorem exec_heard_quiet {s : State} {a : Instant} {bytes : List Byte} {f : BusFrame} {e : Entry}
    {l : List EventRecord} (hstands : s.currentStands = true) (hassembling : assembling s a)
    (hcheck : checkFrame bytes = .valid f) (hsender : f.sender ≠ s.own) (hown : s.race.own ≠ .offline)
    (hpayload : ((s.receiving f).withEntry f.sender ((s.entry f.sender).heardFrom f a) (joined s f a)).hearPayload
      f.sender f.payload a = (s.receiving f).withEntry f.sender e l)
    (hreport : ((s.receiving f).heard f a (e.timed a) l).hearReport f.sender f.payload a =
      (s.receiving f).heard f a (e.timed a) l)
    (hdone : (e.state = (s.entry f.sender).state ∨ e.state.isDone = false) ∧ e.finish = (s.entry f.sender).finish) :
    exec (.frameCompletion bytes) s = .next ((s.receiving f).heard f a (e.timed a) l) := by
  have hnot : ¬ (s.receiving f).testsDone ((s.receiving f).heard f a (e.timed a) l) f.sender = true := by
    obtain ⟨hstate, hfinish, -⟩ := e.timed_keeps a
    rw [State.testsDone_heard_iff, hstate, hfinish]
    rintro (⟨hchanged, hisdone⟩ | hchanged)
    · rcases hdone.1 with h | h
      · exact hchanged h
      · rw [h] at hisdone
        cases hisdone
    · exact hchanged hdone.2
  rw [exec_heard hassembling hcheck hsender hown, State.handOn_eq (s := s.receiving f) hpayload, hreport, if_neg hnot]
  exact done_id hstands rfl

end Sys2Proof.Machine
end

section
/-! PROOFS. Frames that the Peer Table does not take, and frames from stations that do not race with this one (R25, R49,
R54, R57 to R61, R70, R73). -/

namespace Sys2Proof.Machine

open Sys2Proof.Claims

/-! ## Frames not for the table (R25, R49) -/

theorem settle_sending {s : State} (h : s.tx.phase = .sending) : settle s s = s := by
  refine settle_of_not_begin ?_ ?_
  · unfold State.currentStands
    split
    · rfl
    · rw [h]
      rfl
  · rintro ⟨-, -, -, hready⟩
    rw [h] at hready
    cases hready

/-- The completion of the own frame while it is SENDING: its row is READ_BACK_WHOLE. -/
theorem exec_frameCompletion_own {s : State} {a : Instant} {bytes : List Byte} {f : BusFrame}
    (hassembling : assembling s a) (hcheck : checkFrame bytes = .valid f) (hsender : f.sender = s.own)
    (hphase : s.tx.phase = .sending) : exec (.frameCompletion bytes) s = .next s := by
  obtain ⟨⟨r, harrival, -⟩, hcrossing⟩ := hassembling
  have hexec : exec (.frameCompletion bytes) s = done s s := by
    simp only [exec, execFrameCompletion]
    rw [harrival]
    dsimp only
    rw [if_neg (by rw [hcrossing]; decide), hcheck]
    dsimp only
    rw [if_pos ⟨hphase, hsender⟩]
  rw [hexec, done, settle_sending hphase]

theorem exec_frameBroken_sending {s : State} (h : s.tx.phase = .sending) : exec .frameBroken s = .next s := by
  have hexec : exec .frameBroken s = done s s := by
    simp only [exec, execFrameBroken, h, or_true, if_true]
  rw [hexec, done, settle_sending h]

theorem Payload.kindCode_eq (x : Payload) : x.kindCode = frameCode x := by
  cases x <;> rfl

/-- The record of DUPLICATE_STATION. -/
def duplicateRecord (s : State) (f : BusFrame) (a : Instant) : EventRecord :=
  ⟨.duplicateStation, s.own, BitVec.ofNat 16 (frameCode f.payload), a⟩

/-- The part DISABLED by a duplicate station, before it goes OFFLINE (R49). -/
def State.disabled (s : State) (f : BusFrame) (a : Instant) : State :=
  { s with
    rx := afterGood s.rx
    tx := { s.tx.emptySlot with
      lastSender := f.sender, phase := .disabled, queue := [], current := none, inFlight := none, callTimer := none
      stuckWatch := none }
    events := { s.events with records := Claims.posted s [duplicateRecord s f a] } }

theorem State.duplicate_eq {s : State} (f : BusFrame) (a : Instant) (h : s.tx.phase ≠ .disabled) :
    (s.receiving f).duplicate f a =
      if s.race.own = .offline then s.disabled f a
      else { s.disabled f a with
        tx := (s.disabled f a).tx.goOffline, race := Sequencer.initial, peers := PeerTable.initial
        lamp := s.lamp.drop } := by
  refine (if_neg h).trans ?_
  dsimp only
  rw [Payload.kindCode_eq]
  rfl

/-- A Transmitter that is DISABLED with no current frame does nothing after an event. -/
theorem settle_disabled {s t : State} (hcurrent : t.tx.current = none) (hphase : t.tx.phase = .disabled) :
    settle s t = t := by
  refine settle_of_not_begin ?_ ?_
  · rw [State.currentStands, hcurrent]
  · rw [hphase]
    exact fun h => TxPhase.noConfusion h.2.2.2

theorem exec_heard_own {s : State} {a : Instant} {bytes : List Byte} {f : BusFrame} (hassembling : assembling s a)
    (hcheck : checkFrame bytes = .valid f) (hsender : f.sender = s.own) (hphase : s.tx.phase ≠ .sending) :
    exec (.frameCompletion bytes) s = done s ((s.receiving f).duplicate f a) := by
  rw [exec_frameCompletion_of_assembling hassembling hcheck fun h => hphase h.1]
  exact congrArg (done s) (if_pos hsender)

/-- Settles O24: frames in OFFLINE, frames with the own number, and a break of the own frame. -/
theorem framesNotForTheTable : Obligations.FramesNotForTheTable := by
  refine ⟨fun s a bytes f hstands hassembling hcheck hsender hown => ?_,
    fun s a bytes f hassembling hcheck hsender => ⟨fun hdisabled hsending => ?_, fun hdisabled hstands => ?_,
      fun hsending => exec_frameCompletion_own hassembling hcheck hsender hsending⟩,
    fun s h => exec_frameBroken_sending h⟩
  · rw [exec_frameCompletion_of_assembling hassembling hcheck fun h => hsender h.2]
    have hhear : s.hear f a = s.receiving f := (if_neg hsender).trans (if_pos hown)
    rw [hhear]
    exact done_id hstands rfl
  · have hexec := exec_heard_own hassembling hcheck hsender hsending
    rw [State.duplicate_eq f a hdisabled] at hexec
    by_cases hown : s.race.own = .offline
    · rw [if_pos hown, done, settle_disabled (t := s.disabled f a) rfl rfl] at hexec
      exact ⟨_, hexec, rfl, rfl, rfl, ⟨rfl, rfl, rfl, rfl⟩, rfl, rfl, rfl, rfl, hown, rfl, rfl,
        fun h => absurd hown h, fun _ => ⟨rfl, rfl, rfl⟩, rfl⟩
    · rw [if_neg hown, done, settle_disabled] at hexec
      · refine ⟨_, hexec, rfl, rfl, rfl, ⟨rfl, rfl, rfl, rfl⟩, rfl, rfl, rfl, rfl, rfl, rfl, rfl,
          fun _ => ⟨⟨rfl, rfl, rfl, rfl, rfl, rfl, rfl, rfl, rfl, rfl, rfl⟩, rfl, entry_initial_cleared,
            s.lamp.drop_dark, rfl, rfl, rfl⟩, fun h => absurd h hown, rfl⟩
      · rfl
      · rfl
  · have hsending : s.tx.phase ≠ .sending := by rw [hdisabled]; exact nofun
    have hduplicate : (s.receiving f).duplicate f a = s.receiving f := if_pos hdisabled
    rw [exec_heard_own hassembling hcheck hsender hsending, hduplicate]
    exact done_id hstands rfl

/-! ## Frames from stations that do not race with this one (R60, R61, R70) -/

/-- The state of a sender as a frame reaches it, tested against the two states that a CALL moves. -/
theorem decide_heardFrom_state (e : Entry) (f : BusFrame) (a : Instant) :
    decide ((e.heardFrom f a).state = .present) = (decide (e.state = .absent) || decide (e.state = .present)) ∧
      decide ((e.heardFrom f a).state = .entered) = decide (e.state = .entered) := by
  have hstate : (e.heardFrom f a).state = if e.state = .absent then .present else e.state := rfl
  rw [hstate]
  cases e.state <;> exact ⟨rfl, rfl⟩

/-- A CALL from a station in a lobby state. -/
theorem State.withEntry_hearCall_of_lobby (s : State) (p : Station) {e : Entry} (l : List EventRecord) (entered : Bool)
    (race : LobbyInfo) (a : Instant) (h : e.state = .present ∨ e.state = .entered ∨ e.state = .elsewhere) :
    (s.withEntry p e l).hearCall p entered race a =
      s.withEntry p { e with lobby := some race, state := if entered then .entered else .present }
        (l ++ postIf (entered && decide (e.state = .present)) ⟨.peerEntered, p, race.laps.setWidth 16, a⟩ ++
          postIf (!entered && decide (e.state = .entered)) ⟨.peerLeftLobby, p, 0, a⟩) := by
  have hnot : ∀ (x : Entry) (m : List EventRecord), x.state.isRace = false →
      (s.withEntry p x m).retire p 0 a = s.withEntry p x m := fun x m hx => by
    rw [State.withEntry_retire, if_neg fun hrace => Bool.noConfusion (hx.symm.trans hrace.1)]
  rw [State.withEntry_hearCall, hnot]
  · rcases h with h | h | h <;> rw [h] <;> cases entered <;> simp [postIf, EntryState.afterCall]
  · rcases h with h | h | h <;> rw [h] <;> cases entered <;> rfl

/-- A CAR or a START from a station in a lobby state shows it ELSEWHERE. -/
theorem State.withEntry_toElsewhere_of_lobby (s : State) (p : Station) {e : Entry} (l : List EventRecord)
    (h : e.state = .present ∨ e.state = .entered ∨ e.state = .elsewhere) :
    (s.withEntry p e l).toElsewhere p = s.withEntry p { e with state := .elsewhere } l := by
  rw [State.withEntry_toElsewhere]
  split
  case isTrue => rfl
  case isFalse hnot =>
    have helsewhere : e.state = .elsewhere := (h.resolve_left fun h => hnot (.inl h)).resolve_left fun h => hnot (.inr h)
    rw [← helsewhere]

/-- A finish counts from a station whose entry is FINISHED alone. -/
theorem State.hearFinish_of_not_finished {s : State} {p : Station} (c : CarReport) (a : Instant)
    (h : (s.entry p).state ≠ .finished) : s.hearFinish p c a = s := by
  unfold State.hearFinish
  split
  · rfl
  · exact if_neg fun hfinish => h hfinish.2.2.1

theorem State.hearFinish_of_none (s : State) (p : Station) {c : CarReport} (a : Instant) (h : c.finishAge = none) :
    s.hearFinish p c a = s := by
  rw [State.hearFinish, h]

/-- The entry of a lobby station after its CALL. -/
def Entry.afterCall (e : Entry) (f : BusFrame) (a : Instant) (entered : Bool) (race : LobbyInfo) : Entry :=
  { e.heardFrom f a with
    lobby := some race, state := if entered then .entered else .present, presenceTimer := some (a + 1000000) }

/-- The entry of a lobby station after its CAR. -/
def Entry.afterLobbyCar (e : Entry) (f : BusFrame) (a : Instant) : Entry :=
  { e.heardFrom f a with state := .elsewhere, presenceTimer := some (a + 1000000) }

theorem exec_heard_call {s : State} {a : Instant} {bytes : List Byte} {f : BusFrame} {entered : Bool}
    {race : LobbyInfo} (hstands : s.currentStands = true) (hassembling : assembling s a)
    (hcheck : checkFrame bytes = .valid f) (hpayload : f.payload = .call entered race) (hsender : f.sender ≠ s.own)
    (hown : s.race.own ≠ .offline) (hlobby : (s.entry f.sender).state.isRace = false) :
    exec (.frameCompletion bytes) s = .next ((s.receiving f).heard f a
      ((s.entry f.sender).afterCall f a entered race) (joined s f a ++
        postIf (entered && (decide ((s.entry f.sender).state = .absent) || decide ((s.entry f.sender).state = .present)))
          ⟨.peerEntered, f.sender, race.laps.setWidth 16, a⟩ ++
        postIf (!entered && decide ((s.entry f.sender).state = .entered)) ⟨.peerLeftLobby, f.sender, 0, a⟩)) := by
  have hkind := State.withEntry_hearCall_of_lobby (s.receiving f) f.sender (joined s f a) entered race a
    (Entry.heardFrom_lobby (f := f) (a := a) hlobby)
  obtain ⟨hpresent, hentered⟩ := decide_heardFrom_state (s.entry f.sender) f a
  rw [hpresent, hentered] at hkind
  have htimed : ({ (s.entry f.sender).heardFrom f a with
      lobby := some race, state := if entered then .entered else .present } : Entry).timed a =
      (s.entry f.sender).afterCall f a entered race := Entry.timed_of_lobby a (by cases entered <;> simp)
  rw [← htimed]
  refine exec_heard_quiet hstands hassembling hcheck hsender hown ?_ ?_ ⟨.inr (by cases entered <;> rfl), rfl⟩
  · rw [hpayload]
    exact hkind
  · rw [hpayload]
    rfl

theorem exec_heard_lobby_car {s : State} {a : Instant} {bytes : List Byte} {f : BusFrame} {c : CarReport}
    (hstands : s.currentStands = true) (hassembling : assembling s a) (hcheck : checkFrame bytes = .valid f)
    (hpayload : f.payload = .car c) (hsender : f.sender ≠ s.own) (hown : s.race.own ≠ .offline)
    (hlobby : (s.entry f.sender).state.isRace = false) :
    exec (.frameCompletion bytes) s =
      .next ((s.receiving f).heard f a ((s.entry f.sender).afterLobbyCar f a) (joined s f a)) := by
  have hstate := Entry.heardFrom_lobby (f := f) (a := a) hlobby
  have hnot : ¬ ((s.entry f.sender).heardFrom f a).state.acceptsCar = true := by
    rcases hstate with h | h | h <;> rw [h] <;> decide
  have htimed : ({ (s.entry f.sender).heardFrom f a with state := .elsewhere } : Entry).timed a =
      (s.entry f.sender).afterLobbyCar f a := Entry.timed_of_lobby a (.inr (.inr rfl))
  rw [← htimed]
  refine exec_heard_quiet hstands hassembling hcheck hsender hown ?_ ?_ ⟨.inr rfl, rfl⟩
  · rw [hpayload]
    refine (State.withEntry_hearCar (s.receiving f) f.sender _ _ c a).trans ?_
    rw [if_neg hnot, State.withEntry_toElsewhere_of_lobby _ _ _ hstate]
  · rw [hpayload]
    refine State.hearFinish_of_not_finished c a ?_
    rw [State.entry_heard, if_pos rfl, (Entry.timed_keeps _ a).1]
    exact nofun

theorem exec_heard_withdraw {s : State} {a : Instant} {bytes : List Byte} {f : BusFrame} {reason : Byte}
    (hstands : s.currentStands = true) (hassembling : assembling s a) (hcheck : checkFrame bytes = .valid f)
    (hpayload : f.payload = .withdraw reason) (hsender : f.sender ≠ s.own) (hown : s.race.own ≠ .offline)
    (hlobby : (s.entry f.sender).state.isRace = false) :
    exec (.frameCompletion bytes) s = .next ((s.receiving f).heard f a
      { (s.entry f.sender).heardFrom f a with presenceTimer := some (a + 1000000) } (joined s f a)) := by
  have hstate := Entry.heardFrom_lobby (f := f) (a := a) hlobby
  have hnot : ¬ (((s.entry f.sender).heardFrom f a).state.isRace = true ∧
      ((s.entry f.sender).heardFrom f a).state ≠ .retired) := by
    rcases hstate with h | h | h <;> rw [h] <;> decide
  rw [← Entry.timed_of_lobby a hstate]
  refine exec_heard_quiet hstands hassembling hcheck hsender hown ?_ ?_ ⟨.inr ?_, rfl⟩
  · rw [hpayload]
    refine (State.withEntry_retire (s.receiving f) f.sender _ _ _ a).trans ?_
    rw [if_neg hnot]
  · rw [hpayload]
    rfl
  · rcases hstate with h | h | h <;> rw [h] <;> rfl

/-- The other entries stay as they are. -/
theorem State.entry_heard_other (s : State) {f : BusFrame} {p : Station} (a : Instant) (e : Entry)
    (l : List EventRecord) (hp : p ≠ f.sender) : ((s.receiving f).heard f a e l).entry p = s.entry p :=
  ((s.receiving f).entry_heard f a e l p).trans (if_neg hp)

theorem State.entry_heard_sender (s : State) (f : BusFrame) (a : Instant) (e : Entry) (l : List EventRecord) :
    ((s.receiving f).heard f a e l).entry f.sender = e :=
  ((s.receiving f).entry_heard f a e l f.sender).trans (if_pos rfl)

/-- Settles O25: a CALL, a CAR and a WITHDRAW from a station that does not race with this one. -/
theorem framesFromLobbyStations : Obligations.FramesFromLobbyStations := by
  refine ⟨fun s a bytes f entered race hstands hassembling hcheck hpayload hsender hown hlobby => ?_,
    fun s a bytes f c hstands hassembling hcheck hpayload hsender hown hlobby => ?_,
    fun s a bytes f reason hstands hassembling hcheck hpayload hsender hown hlobby => ?_⟩
  · have hnotcar : ∀ c, f.payload ≠ .car c := fun c => by rw [hpayload]; exact nofun
    refine ⟨_, exec_heard_call hstands hassembling hcheck hpayload hsender hown hlobby, rfl, ?_⟩
    rw [State.entry_heard_sender]
    refine ⟨Entry.received_heardFrom _ f a, rfl, rfl, rfl, rfl, ?_, ?_, ⟨rfl, rfl, rfl⟩,
      fun p hp => s.entry_heard_other a _ _ hp, rfl, rfl⟩
    all_goals rw [Entry.afterCall, Entry.heardFrom_of_not_car a hnotcar]
  · refine ⟨_, exec_heard_lobby_car hstands hassembling hcheck hpayload hsender hown hlobby, rfl, ?_⟩
    rw [State.entry_heard_sender]
    refine ⟨Entry.received_heardFrom _ f a, rfl, ?_, ?_, rfl, rfl, ⟨rfl, rfl, rfl⟩,
      fun p hp => s.entry_heard_other a _ _ hp, rfl⟩
    all_goals rw [Entry.afterLobbyCar, Entry.heardFrom_of_car a hpayload]
  · have hnotcar : ∀ c, f.payload ≠ .car c := fun c => by rw [hpayload]; exact nofun
    refine ⟨_, exec_heard_withdraw hstands hassembling hcheck hpayload hsender hown hlobby, rfl, ?_⟩
    rw [State.entry_heard_sender, Entry.heardFrom_of_not_car a hnotcar]
    exact ⟨rfl, ⟨rfl, rfl, rfl⟩, fun p hp => s.entry_heard_other a _ _ hp, rfl⟩

end Sys2Proof.Machine
end

section
/-! PROOFS. CARs from participants: what is stored, the arrival blend, and the finish (R66 to R69, R105, R107, R109,
R125 to R128). -/

namespace Sys2Proof.Machine

open Sys2Proof.Claims

/-! ## The arrival blend (R125 to R128) -/

theorem Surface.code_eq (c : Surface) : c.code = surfaceCode c := by
  cases c <;> rfl

/-- The ordinary blend is the one the manual gives. -/
theorem arrivalBlend_some (t : Settings) (d : Display) (old new : CarValues) (a : Instant) :
    arrivalBlend t d false (some old) new a =
      blended t d (old.carry t a) (new.carry t a) new.surface (staleAt t old.sample a) := by
  have hsnaps : blendSnaps t d old new a = true ↔ staleAt t old.sample a = true ∨
      t.threshold new.surface < (blendErrors t d old new a).ex.natAbs ∨
      t.threshold new.surface < (blendErrors t d old new a).ey.natAbs ∨
      t.threshold new.surface < (blendErrors t d old new a).ez.natAbs ∨
      t.headingThreshold < (blendErrors t d old new a).eh.toInt.natAbs := by
    simp only [blendSnaps, Bool.or_eq_true, decide_eq_true_eq, or_assoc]
  have hthreshold : t.threshold new.surface =
      if t.surfaceMap.getLsbD (surfaceCode new.surface) then t.th1 else t.th0 := by
    rw [Settings.threshold, Surface.code_eq]
  rw [arrivalBlend, Bool.false_or]
  refine ite_congr (propext ?_) (fun _ => rfl) fun _ => rfl
  rw [hsnaps, hthreshold]
  rfl

/-- A snap where there is no record, or on the return from LOST. -/
theorem arrivalBlend_snap {t : Settings} {d : Display} {lost : Bool} {old : Option CarValues} (new : CarValues)
    (a : Instant) (h : old = none ∨ lost = true) : arrivalBlend t d lost old new a = d.snap := by
  rcases h with rfl | rfl
  · rfl
  · cases old <;> rfl

/-! ## The entry after an accepted CAR (R66, R125) -/

/-- The record of a CAR in an entry. -/
def CarReport.record (c : CarReport) (a : Instant) : CarRecord :=
  ⟨⟨a - c.sampleAge.setWidth 32, c.x, c.y, c.z, c.vx, c.vy, c.vz, c.h, c.w, c.g, c.q, c.surface⟩, c.laps,
    c.finishAge.isSome, none⟩

/-- A CAR is not stored where the record held has a later sample instant. -/
theorem Entry.stores_iff {e : Entry} {new : CarValues} :
    e.stores new = true ↔ ∀ r, e.car = some r → e.state = .lost ∨ interval new.sample r.car.sample ≤ 0 := by
  unfold Entry.stores
  cases e.car with
  | none => simp
  | some r => simp [Bool.or_eq_true]

theorem Entry.not_stores_iff {e : Entry} {new : CarValues} :
    ¬ e.stores new = true ↔
      ∃ r, e.car = some r ∧ e.state ≠ .lost ∧ 0 < interval new.sample r.car.sample := by
  rw [Entry.stores_iff]
  simp only [Classical.not_forall, not_or, Int.not_le, exists_prop, ne_eq]

theorem Entry.storeCar_of_stores {e : Entry} (t : Settings) {c : CarReport} {a : Instant}
    (h : e.stores (c.values a) = true) :
    e.storeCar t c a = { e with
      lostTimer := some (a + BitVec.ofNat 32 (t.lostTimeout * 1000)), car := some (c.record a)
      display := arrivalBlend t e.display (decide (e.state = .lost)) (e.car.map CarRecord.car) (c.values a) a } :=
  if_pos h

theorem Entry.storeCar_of_later {e : Entry} (t : Settings) {c : CarReport} {a : Instant}
    (h : ¬ e.stores (c.values a) = true) :
    e.storeCar t c a = { e with lostTimer := some (a + BitVec.ofNat 32 (t.lostTimeout * 1000)) } :=
  if_neg h

/-- What a CAR leaves of its sender's entry, stored or not. -/
theorem Entry.storeCar_keeps (e : Entry) (t : Settings) (c : CarReport) (a : Instant) :
    e.storeCar t c a = { e with
      lostTimer := some (a + BitVec.ofNat 32 (t.lostTimeout * 1000)), car := (e.storeCar t c a).car
      display := (e.storeCar t c a).display } := by
  by_cases h : e.stores (c.values a) = true
  · rw [Entry.storeCar_of_stores t h]
  · rw [Entry.storeCar_of_later t h]

/-- The record held after a CAR. -/
theorem Entry.car_storeCar (e : Entry) (t : Settings) (c : CarReport) (a : Instant) :
    (e.storeCar t c a).car =
      if e.state ≠ .lost ∧ e.car.any (fun x => decide (0 < interval (a - c.sampleAge.setWidth 32) x.car.sample)) then e.car
      else some (c.record a) := by
  by_cases h : e.stores (c.values a) = true
  · rw [Entry.storeCar_of_stores t h, if_neg]
    rintro ⟨hlost, hany⟩
    cases hcar : e.car with
    | none =>
      rw [hcar] at hany
      cases hany
    | some r =>
      rw [hcar, Option.any_some, decide_eq_true_eq] at hany
      exact absurd hany (Int.not_lt.mpr ((Entry.stores_iff.mp h r hcar).resolve_left hlost))
  · obtain ⟨r, hcar, hlost, hlater⟩ := Entry.not_stores_iff.mp h
    rw [Entry.storeCar_of_later t h, if_pos]
    refine ⟨hlost, ?_⟩
    rw [hcar, Option.any_some, decide_eq_true_eq]
    exact hlater

/-- The display after a CAR. -/
theorem Entry.display_storeCar (e : Entry) (t : Settings) (c : CarReport) (a : Instant) :
    displayAfterCar t e c a (e.storeCar t c a).display := by
  refine ⟨fun r hcar hlost hlater => ?_, fun h => ?_, fun r hcar hlost hsample => ?_⟩
  · rw [Entry.storeCar_of_later t (Entry.not_stores_iff.mpr ⟨r, hcar, hlost, hlater⟩)]
  · have hstores : e.stores (c.values a) = true := Entry.stores_iff.mpr fun r hcar => by
      rcases h with h | h
      · rw [h] at hcar
        cases hcar
      · exact .inl h
    rw [Entry.storeCar_of_stores t hstores]
    refine arrivalBlend_snap (c.values a) a (h.imp (fun hnone => ?_) fun hlost => decide_eq_true hlost)
    rw [hnone]
    rfl
  · have hstores : e.stores (c.values a) = true := Entry.stores_iff.mpr fun r' hcar' => by
      obtain rfl : r = r' := Option.some.inj (hcar.symm.trans hcar')
      exact .inr hsample
    rw [Entry.storeCar_of_stores t hstores]
    show arrivalBlend t e.display (decide (e.state = .lost)) (e.car.map CarRecord.car) (c.values a) a = _
    rw [hcar, decide_eq_false hlost]
    exact arrivalBlend_some t e.display r.car (c.values a) a

/-- The entry of a participant after its CAR (R57, R66, R67, R69). -/
def Entry.afterCarFrame (e : Entry) (t : Settings) (f : BusFrame) (c : CarReport) (a : Instant) : Entry :=
  { (e.heardFrom f a).storeCar t c a with state := e.state.afterCar c.finishAge.isSome }

theorem EntryState.isRace_of_acceptsCar {st : EntryState} (h : st.acceptsCar = true) : st.isRace = true := by
  cases st <;> first | rfl | cases h

/-- What a participant's entry holds after its CAR. -/
theorem Entry.afterCarFrame_eq {e : Entry} {f : BusFrame} {c : CarReport} (t : Settings) (a : Instant)
    (hpayload : f.payload = .car c) (haccepts : e.state.acceptsCar = true) :
    e.afterCarFrame t f c a = { e with
      state := e.state.afterCar c.finishAge.isSome
      lastHeard := some a, lastSequence := some f.sequence, raceFlag := f.raceFlag
      window := shiftWindow e.window e.lastSequence f.sequence
      dnf := c.dnf, resend := c.resend
      lostTimer := some (a + BitVec.ofNat 32 (t.lostTimeout * 1000))
      car := if e.state ≠ .lost ∧ e.car.any (fun x => decide (0 < interval (a - c.sampleAge.setWidth 32) x.car.sample))
        then e.car else some (c.record a)
      display := (e.afterCarFrame t f c a).display } ∧
    displayAfterCar t e c a (e.afterCarFrame t f c a).display := by
  have habsent : e.state ≠ .absent := fun h => by
    rw [h] at haccepts
    cases haccepts
  have hheard : e.heardFrom f a = { e with
      lastHeard := some a, lastSequence := some f.sequence, raceFlag := f.raceFlag
      window := shiftWindow e.window e.lastSequence f.sequence
      dnf := c.dnf, resend := c.resend } := by
    rw [Entry.heardFrom_of_car a hpayload, if_neg habsent]
  have hdisplay := (e.heardFrom f a).display_storeCar t c a
  rw [Entry.afterCarFrame, hheard]
  rw [hheard] at hdisplay
  refine ⟨?_, hdisplay⟩
  rw [Entry.storeCar_keeps, Entry.car_storeCar]

/-- A CAR from a participant, at the Peer Table. -/
theorem State.hearPayload_car {s : State} {f : BusFrame} {c : CarReport} (a : Instant) (hpayload : f.payload = .car c)
    (haccepts : (s.entry f.sender).state.acceptsCar = true) :
    (s.withEntry f.sender ((s.entry f.sender).heardFrom f a) (joined s f a)).hearPayload f.sender f.payload a =
      s.withEntry f.sender ((s.entry f.sender).afterCarFrame s.settings f c a)
        (carRecords (s.entry f.sender) f.sender c a) := by
  have hstate : ((s.entry f.sender).heardFrom f a).state = (s.entry f.sender).state :=
    Entry.heardFrom_race (EntryState.isRace_of_acceptsCar haccepts)
  have hjoined : joined s f a = [] := by
    refine if_neg fun h => ?_
    rw [of_decide_eq_true h] at haccepts
    cases haccepts
  have hfinish : ((s.entry f.sender).heardFrom f a).finish = (s.entry f.sender).finish := rfl
  rw [hpayload, hjoined]
  refine (State.withEntry_hearCar s f.sender _ _ c a).trans ?_
  rw [hstate, if_pos haccepts, carRecords, carRecords, hstate, hfinish, Entry.afterCarFrame]
  rfl

theorem EntryState.isRace_afterCar {st : EntryState} (finished : Bool) (h : st.acceptsCar = true) :
    (st.afterCar finished).isRace = true := by
  cases st <;> cases finished <;> first | rfl | cases h

/-- A CAR without a finish from a participant. -/
theorem exec_heard_car {s : State} {a : Instant} {bytes : List Byte} {f : BusFrame} {c : CarReport}
    (hstands : s.currentStands = true) (hassembling : assembling s a) (hcheck : checkFrame bytes = .valid f)
    (hpayload : f.payload = .car c) (hnone : c.finishAge = none) (hsender : f.sender ≠ s.own)
    (hown : s.race.own ≠ .offline) (haccepts : (s.entry f.sender).state.acceptsCar = true) :
    exec (.frameCompletion bytes) s = .next ((s.receiving f).heard f a
      ((s.entry f.sender).afterCarFrame s.settings f c a) (carRecords (s.entry f.sender) f.sender c a)) := by
  have hrace : ((s.entry f.sender).afterCarFrame s.settings f c a).state.isRace = true :=
    EntryState.isRace_afterCar _ haccepts
  have hkept := ((s.entry f.sender).afterCarFrame_eq s.settings a hpayload haccepts).1
  rw [← Entry.timed_of_race a hrace]
  refine exec_heard_quiet hstands hassembling hcheck hsender hown
    (State.hearPayload_car (s := s.receiving f) a hpayload haccepts) ?_ ⟨?_, ?_⟩
  · rw [hpayload]
    exact State.hearFinish_of_none _ _ a hnone
  · rw [hkept, hnone]
    cases hstate : (s.entry f.sender).state <;> first | exact .inl rfl | exact .inr rfl
  · rw [hkept]

/-- Settles O26: a CAR without a finish is stored and blended; one from a LOST participant brings it back. -/
theorem carFromParticipantStored : Obligations.CarFromParticipantStored := by
  refine ⟨fun s a bytes f c hstands hassembling hcheck hpayload hnone hsender hown hstate => ?_,
    fun s a bytes f c hstands hassembling hcheck hpayload hnone hsender hown hlost => ?_⟩
  · have haccepts : (s.entry f.sender).state.acceptsCar = true := by
      rcases hstate with h | h | h <;> rw [h] <;> rfl
    have hnotlost : (s.entry f.sender).state ≠ .lost := by
      rcases hstate with h | h | h <;> rw [h] <;> exact nofun
    obtain ⟨hkept, hstored, hfirst, hblended⟩ := (s.entry f.sender).afterCarFrame_eq s.settings a hpayload haccepts
    have hcar := congrArg Entry.car hkept
    have hstays : (s.entry f.sender).state.afterCar false = (s.entry f.sender).state := by
      rcases hstate with h | h | h <;> rw [h] <;> rfl
    have hrecords : carRecords (s.entry f.sender) f.sender c a = [] := by
      rw [carRecords, hnone, decide_eq_false hnotlost]
      rfl
    refine ⟨_, exec_heard_car hstands hassembling hcheck hpayload hnone hsender hown haccepts, rfl, ?_⟩
    rw [State.entry_heard_sender, hrecords]
    refine ⟨?_, ?_, ?_, ?_, ?_, ?_, ⟨rfl, rfl, rfl⟩, fun r hr hlater => ⟨?_, hstored r hr hnotlost hlater⟩,
      fun hsamples => ?_, fun h => hfirst (.inl h), fun r hr hsample => hblended r hr hnotlost hsample,
      fun p hp => s.entry_heard_other a _ _ hp, rfl⟩
    · rw [hkept]
      exact ⟨rfl, rfl, rfl, rfl⟩
    · rw [hkept, hnone]
      exact hstays
    · rw [hkept]
    · rw [hkept]
    · rw [hkept]
    · rw [hkept]
    · rw [hcar]
      refine (if_pos ⟨hnotlost, ?_⟩).trans hr
      rw [hr, Option.any_some]
      exact decide_eq_true hlater
    · rw [hcar]
      refine (if_neg fun h => ?_).trans (by rw [CarReport.record, hnone]; rfl)
      cases hr : (s.entry f.sender).car with
      | none =>
        rw [hr] at h
        cases h.2
      | some r =>
        rw [hr, Option.any_some, decide_eq_true_eq] at h
        exact absurd h.2 (Int.not_lt.mpr (hsamples r hr))
  · have haccepts : (s.entry f.sender).state.acceptsCar = true := by rw [hlost]; rfl
    obtain ⟨hkept, -, hfirst, -⟩ := (s.entry f.sender).afterCarFrame_eq s.settings a hpayload haccepts
    have hcar := congrArg Entry.car hkept
    have hrecords : carRecords (s.entry f.sender) f.sender c a =
        [⟨.peerReturned, f.sender, c.laps.setWidth 16, a⟩] := by
      rw [carRecords, hnone, hlost]
      rfl
    refine ⟨_, exec_heard_car hstands hassembling hcheck hpayload hnone hsender hown haccepts, rfl, ?_⟩
    rw [State.entry_heard_sender, hrecords]
    refine ⟨?_, ?_, ?_, ?_, ?_, ?_, ⟨rfl, rfl, rfl⟩, ?_, hfirst (.inr hlost),
      fun p hp => s.entry_heard_other a _ _ hp, rfl⟩
    · rw [hkept, hnone, hlost]
      rfl
    · rw [hkept]
    · rw [hkept]
      exact ⟨rfl, rfl, rfl, rfl⟩
    · rw [hkept]
    · rw [hkept]
    · rw [hkept]
    · rw [hcar]
      exact (if_neg fun h => h.1 hlost).trans (by rw [CarReport.record, hnone]; rfl)

end Sys2Proof.Machine
end

section
/-! PROOFS. A participant that leaves our race, and frames from one that has left it (R70, R109, R110). -/

namespace Sys2Proof.Machine

open Sys2Proof.Claims

/-! ## The sender's entry (R60, R70) -/

/-- The lobby info of a sender after its frame: a CALL's is stored. -/
def Entry.lobbyAfter (e : Entry) (x : Payload) : Option LobbyInfo :=
  match x with
  | .call _ race => some race
  | .start _ | .car _ | .withdraw _ => e.lobby

/-- The entry of a participant that a frame retires. -/
def Entry.retiredBy (e : Entry) (f : BusFrame) (a : Instant) : Entry :=
  { e.heardFrom f a with lobby := e.lobbyAfter f.payload, state := .retired, lostTimer := none }

theorem joined_of_race {s : State} {f : BusFrame} (a : Instant) (h : (s.entry f.sender).state.isRace = true) :
    joined s f a = [] := by
  refine if_neg fun habsent => ?_
  rw [of_decide_eq_true habsent] at h
  cases h

/-- A CALL leaves a race state as it is. -/
theorem EntryState.afterCall_of_race {st : EntryState} (entered : Bool) (h : st.isRace = true) :
    st.afterCall entered = st := by
  cases st <;> first | rfl | cases h

/-- A WITHDRAW or a CALL from a participant, at the Peer Table. -/
theorem State.hearPayload_retires {s : State} {f : BusFrame} {detail : Word} (a : Instant)
    (hpayload : (∃ reason, f.payload = .withdraw reason ∧ detail = reason.setWidth 16) ∨
      (∃ entered race, f.payload = .call entered race ∧ detail = 0))
    (hrace : (s.entry f.sender).state.isRace = true) (hretired : (s.entry f.sender).state ≠ .retired) :
    (s.withEntry f.sender ((s.entry f.sender).heardFrom f a) (joined s f a)).hearPayload f.sender f.payload a =
      s.withEntry f.sender ((s.entry f.sender).retiredBy f a) [⟨.peerRetired, f.sender, detail, a⟩] := by
  have hstate : ((s.entry f.sender).heardFrom f a).state = (s.entry f.sender).state := Entry.heardFrom_race hrace
  rw [joined_of_race a hrace, Entry.retiredBy]
  rcases hpayload with ⟨reason, hpayload, rfl⟩ | ⟨entered, race, hpayload, rfl⟩
  · rw [hpayload]
    refine (State.withEntry_retire s f.sender _ _ _ a).trans ?_
    rw [hstate, if_pos ⟨hrace, hretired⟩]
    rfl
  · rw [hpayload]
    refine (State.withEntry_hearCall s f.sender _ _ entered race a).trans ?_
    have hnot : (s.entry f.sender).state ≠ .present ∧ (s.entry f.sender).state ≠ .entered := by
      constructor <;> intro h <;> rw [h] at hrace <;> cases hrace
    rw [hstate, if_neg fun h => hnot.1 h.1, if_neg fun h => hnot.2 h.1, EntryState.afterCall_of_race entered hrace,
      State.withEntry_retire, if_pos ⟨hrace, hretired⟩]
    rfl

/-- The handing on of a frame that retires its sender. -/
theorem State.handOn_retires {s : State} {f : BusFrame} {detail : Word} (a : Instant)
    (hpayload : (∃ reason, f.payload = .withdraw reason ∧ detail = reason.setWidth 16) ∨
      (∃ entered race, f.payload = .call entered race ∧ detail = 0))
    (hrace : (s.entry f.sender).state.isRace = true) (hretired : (s.entry f.sender).state ≠ .retired) :
    s.handOn f a = (s.heard f a ((s.entry f.sender).retiredBy f a)
      [⟨.peerRetired, f.sender, detail, a⟩]).closeIfAllDone := by
  have htimed : ((s.entry f.sender).retiredBy f a).timed a = (s.entry f.sender).retiredBy f a :=
    Entry.timed_of_race a rfl
  have hreport : ∀ t : State, t.hearReport f.sender f.payload a = t := fun t => by
    rcases hpayload with ⟨reason, hpayload, -⟩ | ⟨entered, race, hpayload, -⟩ <;> rw [hpayload] <;> rfl
  rw [State.handOn_eq (State.hearPayload_retires a hpayload hrace hretired), htimed, hreport, if_pos]
  exact State.testsDone_heard_iff.mpr (.inl ⟨hretired.symm, rfl⟩)

/-! ## All done, once a frame has been heard (R109) -/

/-- All done, where the sender itself is. -/
theorem State.allDone_heard_iff {s : State} {f : BusFrame} {a : Instant} {e : Entry} {l : List EventRecord}
    {r : RaceRecord} (hrecord : s.race.record = some r) (hown : s.race.own = .finished) (hdone : isDone e) :
    (s.heard f a e l).allDone = true ↔
      ∀ p, inMask r.mask p = true → p ≠ s.own → p ≠ f.sender → isDone (s.entry p) := by
  rw [State.allDone_iff (s := s.heard f a e l) hrecord]
  refine (and_iff_right hown).trans (forall_congr' fun p => imp_congr_right fun _ => imp_congr_right fun _ => ?_)
  rw [State.entry_heard]
  by_cases hp : p = f.sender
  · simp [hp, hdone]
  · simp [hp]

theorem State.allDone_of_not_finished {s : State} (h : s.race.own ≠ .finished) : s.allDone ≠ true := fun hdone =>
  h (of_decide_eq_true (Bool.and_eq_true_iff.mp hdone).1)

/-- Posts that follow those of a frame heard. -/
theorem posted_heard (s : State) (f : BusFrame) (a : Instant) (e : Entry) (l m : List EventRecord) :
    posted ((s.receiving f).heard f a e l) m = posted s (l ++ linkHeard s f a ++ m) :=
  (List.foldl_append ..).symm

/-- Whether or not all are done, the entries are those the frame left. -/
theorem State.entry_heard_settled (s : State) (f : BusFrame) (a : Instant) (e : Entry) (l : List EventRecord)
    (p : Station) :
    (settle s ((s.receiving f).heard f a e l).closeIfAllDone).entry p = if p = f.sender then e else s.entry p := by
  have hsame : (settle s ((s.receiving f).heard f a e l).closeIfAllDone).entry p =
      ((s.receiving f).heard f a e l).entry p := by simp
  exact hsame.trans ((s.receiving f).entry_heard f a e l p)

/-- A frame heard and settled: the race stays as it is, or closes by all-done. -/
theorem State.heard_settled (s : State) (f : BusFrame) (a : Instant) (e : Entry) (l : List EventRecord) :
    let t := settle s ((s.receiving f).heard f a e l).closeIfAllDone
    (((s.receiving f).heard f a e l).allDone ≠ true →
      t.race = s.race ∧ t.events.records = posted s (l ++ linkHeard s f a)) ∧
    (((s.receiving f).heard f a e l).allDone = true →
      t.race = { s.race with
        own := .results, graceTimer := none, limitTimer := none, ceilingTimer := some (s.origin + 2000000000)
        results := some (t.resultsFor none) } ∧
      t.events.records = posted s (l ++ linkHeard s f a ++ [finalRecord s (t.resultsFor none)])) := by
  dsimp only
  refine ⟨fun hnot => ?_, fun hdone => ?_⟩
  · obtain ⟨hrace, hevents, -⟩ := settle_no_new_start (s := s) (t := (s.receiving f).heard f a e l) id
    rw [State.closeIfAllDone_of_not hnot, hrace, hevents]
    exact ⟨rfl, rfl⟩
  · obtain ⟨hrace, hrecords⟩ := settle_close (s := s) (v := (s.receiving f).heard f a e l) none id
    rw [State.closeIfAllDone_of_all hdone]
    rw [posted_heard] at hrecords
    exact ⟨hrace, hrecords⟩

/-! ## Frames from a retired station (R66, R70) -/

/-- A frame from a retired station, at the Peer Table: its lobby info alone can change beside reception. -/
theorem State.hearPayload_of_retired {s : State} {f : BusFrame} (a : Instant) (hstart : ∀ q, f.payload ≠ .start q)
    (hretired : (s.entry f.sender).state = .retired) :
    (s.withEntry f.sender ((s.entry f.sender).heardFrom f a) (joined s f a)).hearPayload f.sender f.payload a =
      s.withEntry f.sender { (s.entry f.sender).heardFrom f a with
        lobby := (s.entry f.sender).lobbyAfter f.payload } [] := by
  have hrace : (s.entry f.sender).state.isRace = true := by rw [hretired]; rfl
  have hstate : ((s.entry f.sender).heardFrom f a).state = .retired := (Entry.heardFrom_race hrace).trans hretired
  have hnotlobby : ¬ (((s.entry f.sender).heardFrom f a).state = .present ∨
      ((s.entry f.sender).heardFrom f a).state = .entered) := by rw [hstate]; decide
  have hnoretire : ∀ (e : Entry) (d : Word), e.state = .retired →
      (s.withEntry f.sender e []).retire f.sender d a = s.withEntry f.sender e [] := fun e d he => by
    rw [State.withEntry_retire, if_neg fun h => h.2 he]
  rw [joined_of_race a hrace]
  cases hpayload : f.payload with
  | start q => exact absurd hpayload (hstart q)
  | call entered race =>
    refine (State.withEntry_hearCall s f.sender _ _ entered race a).trans ?_
    have hafter : ((s.entry f.sender).heardFrom f a).state.afterCall entered =
        ((s.entry f.sender).heardFrom f a).state := EntryState.afterCall_of_race entered (by rw [hstate]; rfl)
    rw [if_neg fun h => hnotlobby (.inl h.1), if_neg fun h => hnotlobby (.inr h.1), hafter]
    exact hnoretire _ _ hstate
  | car c =>
    refine (State.withEntry_hearCar s f.sender _ _ c a).trans ?_
    rw [if_neg (by rw [hstate]; decide), State.withEntry_toElsewhere, if_neg hnotlobby]
    rfl
  | withdraw reason => exact hnoretire _ _ hstate

theorem exec_heard_of_retired {s : State} {a : Instant} {bytes : List Byte} {f : BusFrame}
    (hstands : s.currentStands = true) (hassembling : assembling s a) (hcheck : checkFrame bytes = .valid f)
    (hstart : ∀ q, f.payload ≠ .start q) (hsender : f.sender ≠ s.own) (hown : s.race.own ≠ .offline)
    (hretired : (s.entry f.sender).state = .retired) :
    exec (.frameCompletion bytes) s = .next ((s.receiving f).heard f a
      { (s.entry f.sender).heardFrom f a with lobby := (s.entry f.sender).lobbyAfter f.payload } []) := by
  have hrace : (s.entry f.sender).state.isRace = true := by rw [hretired]; rfl
  have hstate : ((s.entry f.sender).heardFrom f a).state = .retired := (Entry.heardFrom_race hrace).trans hretired
  have htimed : ({ (s.entry f.sender).heardFrom f a with
      lobby := (s.entry f.sender).lobbyAfter f.payload } : Entry).timed a = _ :=
    Entry.timed_of_race a (by show ((s.entry f.sender).heardFrom f a).state.isRace = true; rw [hstate]; rfl)
  have hexec := exec_heard_quiet hstands hassembling hcheck hsender hown
    (State.hearPayload_of_retired (s := s.receiving f) a hstart hretired) ?_
    ⟨.inl (hstate.trans hretired.symm), rfl⟩
  · exact hexec.trans (congrArg (fun e => Host.Outcome.next ((s.receiving f).heard f a e [])) htimed)
  · cases hpayload : f.payload with
    | start q => exact absurd hpayload (hstart q)
    | call entered race => rfl
    | car c =>
      refine State.hearFinish_of_not_finished c a ?_
      rw [State.entry_heard, if_pos rfl, (Entry.timed_keeps _ a).1]
      show ((s.entry f.sender).heardFrom f a).state ≠ .finished
      rw [hstate]
      exact nofun
    | withdraw reason => rfl

/-- Settles O28: a WITHDRAW or a CALL retires a participant, and a retired one stays so. -/
theorem withdrawRetiresParticipant : Obligations.WithdrawRetiresParticipant := by
  refine ⟨fun s a bytes f detail hassembling hcheck hpayload hsender hown hrace hretired => ?_,
    fun s a bytes f hstands hassembling hcheck hstart hsender hown hretired => ?_⟩
  · have hexec := exec_heard hassembling hcheck hsender hown
    have hsame : (s.receiving f).entry f.sender = s.entry f.sender := rfl
    rw [State.handOn_retires (s := s.receiving f) a hpayload hrace hretired, hsame] at hexec
    refine ⟨_, hexec, ?_⟩
    obtain ⟨hquiet, hall⟩ := s.heard_settled f a ((s.entry f.sender).retiredBy f a)
      [⟨.peerRetired, f.sender, detail, a⟩]
    have hentry := s.entry_heard_settled f a ((s.entry f.sender).retiredBy f a)
      [⟨.peerRetired, f.sender, detail, a⟩]
    generalize settle s ((s.receiving f).heard f a ((s.entry f.sender).retiredBy f a)
      [⟨.peerRetired, f.sender, detail, a⟩]).closeIfAllDone = t at *
    have hself := (hentry f.sender).trans (if_pos rfl)
    refine ⟨by rw [hself]; rfl, by rw [hself]; rfl, by rw [hself]; rfl, by rw [hself]; rfl, by rw [hself]; rfl,
      fun reason h => ?_, fun entered race h => ?_, by rw [hself]; exact ⟨rfl, rfl, rfl, rfl⟩,
      fun p hp => (hentry p).trans (if_neg hp), fun hown => hquiet (State.allDone_of_not_finished hown),
      fun r hown hrecord => ⟨fun ⟨p, hmask, hp, hother, hnot⟩ => ?_, fun hothers => ?_⟩⟩
    · rw [hself, Entry.retiredBy, h]
      rfl
    · rw [hself, Entry.retiredBy, h]
      rfl
    · exact hquiet fun hdone => hnot
        ((State.allDone_heard_iff (s := s.receiving f) hrecord hown (.inr (.inr rfl))).mp hdone p hmask hp hother)
    · obtain ⟨hrace', hrecords⟩ := hall
        ((State.allDone_heard_iff (s := s.receiving f) hrecord hown (.inr (.inr rfl))).mpr hothers)
      rw [hrace', hrecords, State.origin_eq hrecord]
      exact ⟨rfl, rfl⟩
  · refine ⟨_, exec_heard_of_retired hstands hassembling hcheck hstart hsender hown hretired, rfl, ?_⟩
    rw [State.entry_heard_sender]
    have habsent : (s.entry f.sender).state ≠ .absent := by rw [hretired]; exact nofun
    refine ⟨?_, fun entered race hpayload => ?_, fun hpayload => ?_, fun c hpayload => ?_, fun hpayload => ?_,
      ⟨rfl, rfl, rfl⟩, fun p hp => s.entry_heard_other a _ _ hp, rfl⟩
    · rw [Entry.heardFrom, if_neg habsent, Entry.receive]
    · rw [hpayload]
      rfl
    · cases hpayload' : f.payload with
      | call entered race => exact absurd hpayload' (hpayload entered race)
      | _ => rfl
    · rw [Entry.heardFrom_of_car a hpayload]
      exact ⟨rfl, rfl⟩
    · rw [Entry.heardFrom_of_not_car a hpayload]
      exact ⟨rfl, rfl⟩

end Sys2Proof.Machine
end

section
/-! PROOFS. A CAR with a finish: the finish written, and the closes it can bring (R67, R69, R105, R107, R109, R110). -/

namespace Sys2Proof.Machine

open Sys2Proof.Claims

/-! ## The finish of a participant (R105) -/

/-- A CAR's finish is written into its sender's entry (R105). -/
def State.writesFinish (s : State) (e : Entry) (finish : BitVec 32) : Bool :=
  decide (e.state ≠ .grid) && e.finish.isNone && (decide (s.race.own = .racing) || decide (s.race.own = .finished)) &&
    decide (0 < finish.toInt)

/-- A CAR with a finish is followed by the test for all done (R109). -/
def Entry.testedAfterFinish (e : Entry) (written : Bool) : Bool :=
  decide (e.state = .racing) || decide (e.state = .lost) || written

theorem State.writesFinish_iff {s : State} {e : Entry} {finish : BitVec 32} :
    s.writesFinish e finish = true ↔
      e.state ≠ .grid ∧ e.finish = none ∧ (s.race.own = .racing ∨ s.race.own = .finished) ∧ 0 < finish.toInt := by
  simp only [State.writesFinish, Bool.and_eq_true, Bool.or_eq_true, decide_eq_true_eq, Option.isNone_iff_eq_none,
    and_assoc]

theorem Entry.testedAfterFinish_iff {e : Entry} {written : Bool} :
    e.testedAfterFinish written = true ↔ e.state = .racing ∨ e.state = .lost ∨ written = true := by
  simp only [Entry.testedAfterFinish, Bool.or_eq_true, decide_eq_true_eq, or_assoc]

/-- The part after a CAR with a finish, before the closes it can bring: the finish joins the earliest if it is written
and first. -/
def State.afterFinish (s : State) (f : BusFrame) (a : Instant) (e : Entry) (l : List EventRecord) (finish : BitVec 32)
    (grace : Instant) (written first : Bool) : State :=
  (s.heard f a { e with finish := if written then some finish else e.finish } l).setRace { s.race with
    earliest := if written && first then some finish else s.race.earliest
    graceTimer := if written && first then some grace else s.race.graceTimer }

/-- The closes after an event, where all-done is tested at all. -/
def State.closing (s : State) (first tested : Bool) : State :=
  if tested then (s.closeIfGraceReached first).closeIfAllDone else s

/-- The Race Sequencer's part in a CAR with a finish. -/
theorem State.hearFinish_eq {s : State} {f : BusFrame} {c : CarReport} {a age grace : Instant} {e : Entry}
    {l : List EventRecord} {finish : BitVec 32} {written first : Bool} (hage : c.finishAge = some age)
    (hfinish : finish = a - age - s.origin)
    (hgrace : grace = a - age + BitVec.ofNat 32 (s.settings.finishGrace * 1000000) + 250000)
    (hfirst : s.isEarliest finish = first)
    (hwritten : written = true ↔
      e.finish = none ∧ s.race.own.isRunning = true ∧ e.state = .finished ∧ 0 < finish.toInt) :
    (s.heard f a e l).hearFinish f.sender c a =
      (s.afterFinish f a e l finish grace written first).closeIfGraceReached (written && first) := by
  have hself : (s.heard f a e l).entry f.sender = e := (s.entry_heard f a e l f.sender).trans (if_pos rfl)
  have horigin : (s.heard f a e l).origin = s.origin := rfl
  unfold State.hearFinish
  rw [hage]
  dsimp only
  rw [hself, horigin, ← hfinish]
  have hgrace' : s.origin + finish + seconds s.settings.finishGrace + settleMargin = grace := by
    rw [hfinish, BitVec.add_comm s.origin, BitVec.sub_add_cancel, hgrace]
    rfl
  cases hcase : written
  · exact if_neg fun h => Bool.false_ne_true (hcase.symm.trans (hwritten.mpr h))
  · refine (if_pos (hwritten.mp hcase)).trans (congr (congrArg State.closeIfGraceReached ?_) hfirst)
    rw [State.writeFinish_eq (s := s.heard f a e l) hfirst hgrace', hself, State.afterFinish, State.heard, State.heard,
      State.setRace, Eight.set_set, Bool.true_and]
    rfl

theorem EntryState.afterCar_finished {st : EntryState} (haccepts : st.acceptsCar = true) :
    st.afterCar true = if decide (st ≠ .grid) then .finished else .grid := by
  cases st <;> first | rfl | cases haccepts

/-- When all-done is tested after a CAR with a finish. -/
theorem State.testsDone_afterFinish {s : State} {f : BusFrame} {a : Instant} {e : Entry} {l : List EventRecord}
    (finish : BitVec 32) (grace : Instant) {written : Bool} (first : Bool)
    (hstate : e.state = (s.entry f.sender).state.afterCar true) (hfinish : e.finish = (s.entry f.sender).finish)
    (hwritten : written = true → e.finish = none) :
    s.testsDone ((s.afterFinish f a e l finish grace written first).closeIfGraceReached (written && first)) f.sender =
      (s.entry f.sender).testedAfterFinish written := by
  have hentry : ((s.afterFinish f a e l finish grace written first).closeIfGraceReached (written && first)).entry
      f.sender = { e with finish := if written then some finish else e.finish } := by
    have hsame : ((s.afterFinish f a e l finish grace written first).closeIfGraceReached (written && first)).entry
        f.sender = (s.heard f a { e with finish := if written then some finish else e.finish } l).entry f.sender := by
      simp [State.afterFinish]
    exact hsame.trans ((s.entry_heard f a _ l f.sender).trans (if_pos rfl))
  have hnew : decide ((if written then some finish else e.finish) ≠ (s.entry f.sender).finish) = written := by
    rw [← hfinish]
    cases hcase : written
    · exact decide_eq_false (Classical.not_not.mpr rfl)
    · rw [hwritten hcase]
      rfl
  rw [State.testsDone, hentry, Entry.testedAfterFinish]
  dsimp only
  rw [hnew, hstate]
  cases hcase : (s.entry f.sender).state <;> rfl

/-- A CAR with a finish from a participant, handed on. -/
theorem State.handOn_finish {s : State} {f : BusFrame} {c : CarReport} {a age grace : Instant} {finish : BitVec 32}
    {written first : Bool} (hpayload : f.payload = .car c) (haccepts : (s.entry f.sender).state.acceptsCar = true)
    (hage : c.finishAge = some age) (hfinish : finish = a - age - s.origin)
    (hgrace : grace = a - age + BitVec.ofNat 32 (s.settings.finishGrace * 1000000) + 250000)
    (hfirst : s.isEarliest finish = first) (hwritten : written = s.writesFinish (s.entry f.sender) finish) :
    s.handOn f a =
      (s.afterFinish f a ((s.entry f.sender).afterCarFrame s.settings f c a)
        (carRecords (s.entry f.sender) f.sender c a) finish grace written first).closing (written && first)
        ((s.entry f.sender).testedAfterFinish written) := by
  have hkept := ((s.entry f.sender).afterCarFrame_eq s.settings a hpayload haccepts).1
  have hstate : ((s.entry f.sender).afterCarFrame s.settings f c a).state =
      (s.entry f.sender).state.afterCar true := by rw [hkept, hage]; rfl
  have hheld : ((s.entry f.sender).afterCarFrame s.settings f c a).finish = (s.entry f.sender).finish := by rw [hkept]
  have hiff : written = true ↔ (s.entry f.sender).finish = none ∧ s.race.own.isRunning = true ∧
      (s.entry f.sender).state ≠ .grid ∧ 0 < finish.toInt := by
    rw [hwritten, State.writesFinish_iff, OwnState.isRunning_iff]
    exact ⟨fun ⟨hstarted, hnone, hrunning, hpositive⟩ => ⟨hnone, hrunning, hstarted, hpositive⟩,
      fun ⟨hnone, hrunning, hstarted, hpositive⟩ => ⟨hstarted, hnone, hrunning, hpositive⟩⟩
  have hwritten' : written = true ↔ ((s.entry f.sender).afterCarFrame s.settings f c a).finish = none ∧
      s.race.own.isRunning = true ∧ ((s.entry f.sender).afterCarFrame s.settings f c a).state = .finished ∧
      0 < finish.toInt := by
    rw [hiff, hheld, hstate, EntryState.afterCar_finished haccepts]
    refine and_congr_right fun _ => and_congr_right fun _ => and_congr_left fun _ => ?_
    cases (s.entry f.sender).state <;> decide
  have htimed : ((s.entry f.sender).afterCarFrame s.settings f c a).timed a =
      (s.entry f.sender).afterCarFrame s.settings f c a :=
    Entry.timed_of_race a (hstate ▸ EntryState.isRace_afterCar true haccepts)
  have hreport : (s.heard f a ((s.entry f.sender).afterCarFrame s.settings f c a)
      (carRecords (s.entry f.sender) f.sender c a)).hearReport f.sender f.payload a =
      (s.afterFinish f a ((s.entry f.sender).afterCarFrame s.settings f c a)
        (carRecords (s.entry f.sender) f.sender c a) finish grace written first).closeIfGraceReached
        (written && first) := by
    rw [hpayload]
    exact State.hearFinish_eq hage hfinish hgrace hfirst hwritten'
  rw [State.handOn_eq (State.hearPayload_car a hpayload haccepts), htimed, hreport,
    State.testsDone_afterFinish finish grace first hstate hheld fun h => (hwritten'.mp h).1, State.closing]
  cases htested : (s.entry f.sender).testedAfterFinish written
  · rw [if_neg Bool.false_ne_true, if_neg Bool.false_ne_true]
    have hnot : written = false := (Bool.or_eq_false_iff.mp htested).2
    rw [hnot]
    exact if_neg Bool.false_ne_true
  · rw [if_pos rfl, if_pos rfl]

/-! ## The closes after the finish, settled (R107, R109) -/

/-- A part with the closes a finish can bring, settled. -/
theorem settle_closing {s v : State} {first tested : Bool} {grace : Instant}
    (hno : ControlFrame.start ∈ v.tx.queue → ControlFrame.start ∈ s.tx.queue)
    (hrunning : first = true → v.race.own = .racing ∨ v.race.own = .finished)
    (htimer : first = true → v.race.graceTimer = some grace) (htested : first = true → tested = true) :
    let t := settle s (v.closing first tested)
    t = { v with tx := t.tx, race := t.race, events := t.events } ∧ t.race.earliest = v.race.earliest ∧
      (first = false ∨ reached v.tick grace = false → (tested && v.allDone) = false → t = settle s v) ∧
      (first = true → reached v.tick grace = true → t = settle s (v.close (some v.graceEnd) false)) ∧
      (first = false ∨ reached v.tick grace = false → (tested && v.allDone) = true →
        t = settle s (v.close none false)) := by
  dsimp only
  cases htest : tested
  · have hnot : first = false := by
      cases hcase : first
      · rfl
      · exact absurd (htested hcase) (Bool.eq_false_iff.mp htest)
    subst hnot
    have hsame : v.closing false false = v := if_neg Bool.false_ne_true
    obtain ⟨hrace, hevents, -⟩ := settle_no_new_start hno
    rw [hsame, hrace, hevents]
    exact ⟨settle_eq_of_no_new_start hno, rfl, fun _ _ => rfl, nofun, fun _ h => by cases h⟩
  · have hclosing : v.closing first true = (v.closeIfGraceReached first).closeIfAllDone := if_pos rfl
    obtain ⟨htx, -, hkeep, -, -, hearliest⟩ := v.closings_keep first
    have hno' : ControlFrame.start ∈ ((v.closeIfGraceReached first).closeIfAllDone).tx.queue →
        ControlFrame.start ∈ s.tx.queue := by
      rcases htx with h | h <;> rw [h] <;> exact hno
    rw [hclosing]
    refine ⟨State.eq_of_kept (settle_eq_of_no_new_start hno') hkeep, ?_, fun hquiet hall => ?_,
      fun hcase hreached => ?_, fun hquiet hall => ?_⟩
    · rw [(settle_no_new_start hno').1, hearliest]
    · rw [State.closings_of_no_grace htimer hquiet, State.closeIfAllDone_of_not (Bool.eq_false_iff.mp hall)]
    · subst hcase
      rw [State.closings_of_grace (hrunning rfl) (htimer rfl) hreached]
    · rw [State.closings_of_no_grace htimer hquiet, State.closeIfAllDone_of_all hall]

/-- All done, where the sender has FINISHED. -/
theorem State.allDone_afterFinish_iff {s : State} {f : BusFrame} {a : Instant} {e : Entry} {l : List EventRecord}
    {finish : BitVec 32} {grace : Instant} {written first : Bool} {r : RaceRecord} (hrecord : s.race.record = some r)
    (hfinished : e.state = .finished) :
    (s.afterFinish f a e l finish grace written first).allDone = true ↔
      s.race.own = .finished ∧ ∀ p, inMask r.mask p = true → p ≠ s.own → p ≠ f.sender → isDone (s.entry p) := by
  rw [State.allDone_iff (s := s.afterFinish f a e l finish grace written first) hrecord]
  refine and_congr_right fun _ => forall_congr' fun p => imp_congr_right fun _ => imp_congr_right fun _ => ?_
  have hentry : (s.afterFinish f a e l finish grace written first).entry p =
      if p = f.sender then { e with finish := if written then some finish else e.finish } else s.entry p :=
    s.entry_heard f a _ l p
  rw [hentry]
  by_cases hp : p = f.sender
  · simp [hp, isDone, hfinished]
  · simp [hp]

/-- The part after a CAR with a finish, its sender's entry stored, before the closes it can bring. -/
def State.finishHeard (s : State) (f : BusFrame) (c : CarReport) (a age : Instant) (finish : BitVec 32)
    (written first : Bool) : State :=
  (s.receiving f).afterFinish f a ((s.entry f.sender).afterCarFrame s.settings f c a)
    (carRecords (s.entry f.sender) f.sender c a) finish
    (a - age + BitVec.ofNat 32 (s.settings.finishGrace * 1000000) + 250000) written first

/-- Settles O27: a CAR with a finish. -/
theorem carWithFinishWritten : Obligations.CarWithFinishWritten := by
  intro s a bytes f c age finish r e started written first heard hassembling hcheck hpayload hage hsender hown hrecord
    he hstate hfinish hstarted hwritten hfirst hheard
  subst he
  have haccepts : (s.entry f.sender).state.acceptsCar = true := by
    rcases hstate with h | h | h | h <;> rw [h] <;> rfl
  have hwrites : written = s.writesFinish (s.entry f.sender) finish := by rw [hwritten, hstarted]; rfl
  have horigin : (s.receiving f).origin = r.green := State.origin_eq (s := s.receiving f) hrecord
  have hexec : exec (.frameCompletion bytes) s = .next (settle s ((s.finishHeard f c a age finish written first).closing
      (written && first) ((s.entry f.sender).testedAfterFinish written))) :=
    (exec_heard hassembling hcheck hsender hown).trans (congrArg (done s) (State.handOn_finish (s := s.receiving f)
      hpayload haccepts hage (by rw [horigin]; exact hfinish) rfl hfirst.symm hwrites))
  have hrecords : carRecords (s.entry f.sender) f.sender c a ++ linkHeard s f a = heard := by
    rw [hheard, carRecords, hage]
    rfl
  have hposts : ∀ m, posted (s.finishHeard f c a age finish written first) m = posted s (heard ++ m) := fun m => by
    rw [← hrecords]
    exact (List.foldl_append ..).symm
  obtain ⟨hkept, hdisplay⟩ := (s.entry f.sender).afterCarFrame_eq s.settings a hpayload haccepts
  have hafter : ((s.entry f.sender).afterCarFrame s.settings f c a).state = if started then .finished else .grid := by
    rw [hkept, hage, hstarted]
    exact EntryState.afterCar_finished haccepts
  have hstartedOf : (s.entry f.sender).testedAfterFinish written = true → started = true := fun h => by
    rw [hstarted]
    rcases Entry.testedAfterFinish_iff.mp h with h | h | h
    · rw [h]; rfl
    · rw [h]; rfl
    · exact decide_eq_true (State.writesFinish_iff.mp (hwrites.symm.trans h)).1
  have hrunning : (written && first) = true → s.race.own = .racing ∨ s.race.own = .finished := fun h =>
    (State.writesFinish_iff.mp (hwrites.symm.trans (Bool.and_eq_true_iff.mp h).1)).2.2.1
  obtain ⟨hkeep, hearliest, hquiet, hgrace, hall⟩ := settle_closing (s := s)
    (v := s.finishHeard f c a age finish written first) (first := written && first)
    (tested := (s.entry f.sender).testedAfterFinish written)
    (grace := a - age + BitVec.ofNat 32 (s.settings.finishGrace * 1000000) + 250000) id hrunning
    (fun h => if_pos h) (fun h => Entry.testedAfterFinish_iff.mpr (.inr (.inr (Bool.and_eq_true_iff.mp h).1)))
  have hdoneIff : ((s.entry f.sender).testedAfterFinish written &&
      (s.finishHeard f c a age finish written first).allDone) = true ↔
      (s.entry f.sender).testedAfterFinish written = true ∧ s.race.own = .finished ∧
        ∀ p, inMask r.mask p = true → p ≠ s.own → p ≠ f.sender → isDone (s.entry p) := by
    rw [Bool.and_eq_true]
    refine and_congr_right fun h => State.allDone_afterFinish_iff (s := s.receiving f) hrecord ?_
    rw [hafter, hstartedOf h]
    rfl
  generalize settle s ((s.finishHeard f c a age finish written first).closing (written && first)
    ((s.entry f.sender).testedAfterFinish written)) = t at *
  have hentry : ∀ p, t.entry p = if p = f.sender then
      { (s.entry f.sender).afterCarFrame s.settings f c a with
        finish := if written then some finish else ((s.entry f.sender).afterCarFrame s.settings f c a).finish }
      else s.entry p := fun p => by
    rw [hkeep]
    exact s.entry_setEntry f.sender p _
  have hself := (hentry f.sender).trans (if_pos rfl)
  have hpeers : t.peers = (s.finishHeard f c a age finish written first).peers := by rw [hkeep]
  refine ⟨t, hexec, ?_, ?_, ?_, ?_, ?_, ?_, ?_, ?_, ?_, ?_, fun p hp => (hentry p).trans (if_neg hp), hearliest,
    fun hnot hleft => ?_, fun hcase hreached => ?_, fun hnot hown' hcase hothers => ?_⟩
  · rw [hpeers]
    exact hkeep
  · rw [hself, hkept]
    exact ⟨rfl, rfl, rfl, rfl⟩
  · rw [hself, hkept]
  · rw [hself, hkept]
  · rw [hself]
    exact hafter
  · rw [hself, hkept]
  · rw [hself, hkept]
  · rw [hself, hkept]
    refine ite_congr rfl (fun _ => rfl) fun _ => ?_
    rw [CarReport.record, hage]
    rfl
  · rw [hself]
    exact hdisplay
  · rw [linkAlive, hpeers]
    exact ⟨rfl, rfl, rfl⟩
  · have hnone := Bool.eq_false_iff.mpr fun h => by
      obtain ⟨htest, hown', hothers⟩ := hdoneIff.mp h
      rcases hleft with hleft | hleft | ⟨hstate', hleft⟩ | ⟨p, hmask, hp, hother, hleft⟩
      · exact hleft hown'
      · exact absurd ((hstartedOf htest).symm.trans hleft) (by decide)
      · rcases Entry.testedAfterFinish_iff.mp htest with h | h | h
        · exact absurd (hstate'.symm.trans h) (by decide)
        · exact absurd (hstate'.symm.trans h) (by decide)
        · exact absurd (h.symm.trans hleft) (by decide)
      · exact hleft (hothers p hmask hp hother)
    obtain ⟨hrace, hevents, -⟩ := settle_no_new_start (s := s) (t := s.finishHeard f c a age finish written first) id
    have ht := hquiet hnot hnone
    refine ⟨fun hstands => ?_, ?_, ?_⟩
    · rw [ht, settle_id (s := s) (t := s.finishHeard f c a age finish written first) hstands rfl]
      rfl
    · rw [ht, hrace]
      rfl
    · rw [ht, hevents, ← hrecords]
      rfl
  · obtain ⟨hrace, hposted⟩ := settle_close (s := s) (v := s.finishHeard f c a age finish written first)
      (some (s.finishHeard f c a age finish written first).graceEnd) id
    have hend : (s.finishHeard f c a age finish written first).graceEnd =
        finish + BitVec.ofNat 32 (s.settings.finishGrace * 1000000) := by
      have hfinish' : (s.finishHeard f c a age finish written first).race.earliest = some finish := if_pos hcase
      rw [State.graceEnd, hfinish']
      rfl
    rw [← hgrace hcase hreached, hend] at hrace hposted
    rw [hrace, hposted, hposts]
    exact ⟨rfl, rfl, rfl⟩
  · obtain ⟨hrace, hposted⟩ := settle_close (s := s) (v := s.finishHeard f c a age finish written first) none id
    have htest := Entry.testedAfterFinish_iff.mpr (hcase.imp id (Or.imp id And.right))
    rw [← hall hnot (hdoneIff.mpr ⟨htest, hown', hothers⟩)] at hrace hposted
    rw [hrace, hposted, hposts]
    exact ⟨rfl, rfl, rfl⟩

end Sys2Proof.Machine
end

section
/-! PROOFS. Hearing a START: what the Race Sequencer decides, what it does to the Peer Table, and the sender's entry
(R61, R84 to R93). -/

namespace Sys2Proof.Machine

open Sys2Proof.Claims

/-! ## Posts and the records after them -/

theorem Posts.posted {s t : State} {l : List EventRecord} (h : Posts s t l) (m : List EventRecord) :
    posted t m = posted s (l ++ m) := by
  obtain ⟨hsettings, hown, hevents⟩ := h
  rw [Claims.posted, Claims.posted, List.foldl_append, hsettings, hown, hevents]
  rfl

/-! ## Stations seated and marked ELSEWHERE (R61, R64, R88) -/

theorem State.entry_seatMask (s : State) (mask : Byte) (p : Station) :
    (s.seatMask mask).entry p =
      if inMask mask p && decide (p ≠ s.own) then (s.entry p).seat else s.entry p :=
  s.entry_mapEntries (fun p e => if inMask mask p && decide (p ≠ s.own) then e.seat else e) p

theorem State.entry_seatMask_of_in {s : State} {mask : Byte} {p : Station} (h : inMask mask p = true)
    (hp : p ≠ s.own) : (s.seatMask mask).entry p = (s.entry p).seat := by
  rw [State.entry_seatMask, h, decide_eq_true hp]
  rfl

theorem State.entry_seatMask_of_out {s : State} {mask : Byte} {p : Station} (h : inMask mask p = false) :
    (s.seatMask mask).entry p = s.entry p := by
  rw [State.entry_seatMask, h]
  rfl

theorem State.entry_seatMask_own (s : State) (mask : Byte) : (s.seatMask mask).entry s.own = s.entry s.own := by
  rw [State.entry_seatMask, decide_eq_false (Classical.not_not.mpr rfl), Bool.and_false]
  rfl

/-- The entry of a station whose race left without this one (R61, R88). -/
def Entry.marked (e : Entry) (a : Instant) : Entry :=
  { e with
    state := .elsewhere
    presenceTimer := if e.state = .absent then some (a + 1000000) else e.presenceTimer }

theorem State.entry_markElsewhere (s : State) (mask : Byte) (a : Instant) (p : Station) :
    (s.markElsewhere mask a).entry p =
      if inMask mask p && decide (p ≠ s.own) then (s.entry p).marked a else s.entry p :=
  s.entry_mapEntries (fun p e => if inMask mask p && decide (p ≠ s.own) then e.marked a else e) p

theorem State.entry_markElsewhere_of_in {s : State} {mask : Byte} (a : Instant) {p : Station}
    (h : inMask mask p = true) (hp : p ≠ s.own) : (s.markElsewhere mask a).entry p = (s.entry p).marked a := by
  rw [State.entry_markElsewhere, h, decide_eq_true hp]
  rfl

theorem State.entry_markElsewhere_of_out {s : State} {mask : Byte} (a : Instant) {p : Station}
    (h : inMask mask p = false) : (s.markElsewhere mask a).entry p = s.entry p := by
  rw [State.entry_markElsewhere, h]
  rfl

/-! ## The three decisions that change the race or the table (R87, R88, R92, R93) -/

/-- The part with the record of a START in force and no own proposal, before the mask is seated. -/
def State.agreed (s : State) (p : Station) (q : StartProposal) (a : Instant) : State :=
  let s := s.beginRecord (makeRecord p q a)
  let s := s.setRace { s.race with lobbyTimer := none }
  if p = s.own then s.setRace { s.race with proposal := .none } else s.removeProposal

theorem State.agreed_eq (s : State) (p : Station) (q : StartProposal) (a : Instant) :
    s.agreed p q a = { s with
      tx := (s.agreed p q a).tx, race := (s.agreed p q a).race
      lamp := s.lamp.schedule s.settings s.tick (a + q.lead.setWidth 32) } := by
  unfold State.agreed
  dsimp only
  split
  · rfl
  · rw [State.removeProposal_eq]
    rfl

theorem State.adopt_eq (s : State) (p : Station) (q : StartProposal) (a : Instant) :
    s.adopt p q a = { s with
      tx := (s.adopt p q a).tx, race := (s.adopt p q a).race, peers := (s.seatMask q.mask).peers
      lamp := s.lamp.schedule s.settings s.tick (a + q.lead.setWidth 32)
      events := { s.events with records := Claims.posted s [⟨.startAdopted, p, q.mask.setWidth 16, a⟩] } } := by
  have hadopt : s.adopt p q a =
      (((s.agreed p q a).seatMask q.mask).setOwn .countdown).post .startAdopted p (q.mask.setWidth 16) a := rfl
  rw [hadopt, State.agreed_eq]
  rfl

/-- The records of a replacement that includes this station (R84, R92). -/
def replacedRecords (s : State) (p : Station) (q : StartProposal) (a : Instant) : List EventRecord :=
  ⟨.startReplaced, p, q.mask.setWidth 16, a⟩ :: gone s (fun x => !inMask q.mask x) a

/-- The records of a replacement that excludes this station (R84, R93). -/
def missedRecords (s : State) (p : Station) (q : StartProposal) (a : Instant) : List EventRecord :=
  ⟨.startMissed, p, q.mask.setWidth 16, a⟩ :: gone s (fun _ => true) a

theorem State.replaceWith_eq (s : State) (p : Station) (q : StartProposal) (a : Instant) :
    s.replaceWith p q a = { s with
      race := (s.beginRecord (makeRecord p q a)).race
      peers := ((s.unseatEntries fun x => s.seated x && !inMask q.mask x).seatMask q.mask).peers
      lamp := s.lamp.schedule s.settings s.tick (a + q.lead.setWidth 32)
      events := { s.events with records := Claims.posted s (replacedRecords s p q a) } } := by
  rw [replacedRecords, ← goneRecords_seated, State.replaceWith, State.unseatWhere_eq]
  rfl

theorem State.replaceWithout_eq (s : State) (p : Station) (q : StartProposal) (a : Instant) :
    s.replaceWithout p q a = { s with
      tx := { s.tx.emptySlot with callTimer := none }
      race := { s.race.clearRace with
        own := .entered, proposal := .none
        lobbyTimer := some (s.tick + BitVec.ofNat 32 (s.settings.lobbyWindow * 1000000)) }
      peers := ((s.setPeers s.leftPeers).markElsewhere q.mask a).peers
      lamp := s.lamp.drop
      events := { s.events with records := Claims.posted s (missedRecords s p q a) } } := by
  rw [State.replaceWithout, State.leaveRace_eq]
  rfl

/-! ## The sender's entry (R57, R59, R61) -/

/-- A sender left PRESENT or ENTERED by its START becomes ELSEWHERE. -/
def Entry.elsewhere (e : Entry) : Entry :=
  if e.state = .present ∨ e.state = .entered then { e with state := .elsewhere } else e

/-- The sender's entry after its START: the presence timer of one outside the race restarts. -/
def Entry.afterStart (e : Entry) (a : Instant) : Entry := e.elsewhere.timed a

theorem State.toElsewhere_eq (v : State) (p : Station) : v.toElsewhere p = v.withEntry p (v.entry p).elsewhere [] := by
  have hself := State.withEntry_toElsewhere v p (v.entry p) []
  rw [State.withEntry_self] at hself
  rw [hself, Entry.elsewhere]
  split
  · rfl
  · exact (v.withEntry_self p).symm

theorem Entry.afterStart_of_race {e : Entry} (a : Instant) (h : e.state.isRace = true) : e.afterStart a = e := by
  rw [Entry.afterStart, Entry.elsewhere, if_neg, Entry.timed_of_race a h]
  rintro (hstate | hstate) <;> rw [hstate] at h <;> cases h

theorem Entry.afterStart_of_lobby {e : Entry} (a : Instant)
    (h : e.state = .present ∨ e.state = .entered ∨ e.state = .elsewhere) :
    e.afterStart a = { e with state := .elsewhere, presenceTimer := some (a + 1000000) } := by
  rw [Entry.afterStart, Entry.elsewhere]
  split
  case isTrue => rfl
  case isFalse hnot =>
    have helsewhere : e.state = .elsewhere :=
      (h.resolve_left fun h => hnot (.inl h)).resolve_left fun h => hnot (.inr h)
    rw [Entry.timed_of_lobby a h, ← helsewhere]

/-- What a START leaves of its sender's entry beside state and presence timer. -/
theorem Entry.afterStart_keeps (e : Entry) (a : Instant) :
    (e.afterStart a).car = e.car ∧ (e.afterStart a).finish = e.finish ∧
      (∀ e' f, received e' e f a → received e' (e.afterStart a) f a) := by
  rw [Entry.afterStart, Entry.elsewhere, Entry.timed]
  repeat' split
  all_goals exact ⟨rfl, rfl, fun _ _ h => h⟩

theorem Entry.isRace_afterStart (e : Entry) (a : Instant) : (e.afterStart a).state.isRace = e.state.isRace := by
  rw [Entry.afterStart, (Entry.timed_keeps _ a).1, Entry.elsewhere]
  split
  case isTrue h => rcases h with h | h <;> rw [h] <;> rfl
  case isFalse => rfl

theorem not_car_of_start {f : BusFrame} {q : StartProposal} (h : f.payload = .start q) (c : CarReport) :
    f.payload ≠ .car c := fun hcar => nomatch h.symm.trans hcar

/-- The sender's entry where a START changes no race. -/
theorem Entry.passedOver_heardFrom {e : Entry} {f : BusFrame} {q : StartProposal} {a : Instant}
    (hpayload : f.payload = .start q) : passedOver e ((e.heardFrom f a).afterStart a) f a := by
  have hnotcar := not_car_of_start hpayload
  cases hrace : e.state.isRace
  · rw [Entry.afterStart_of_lobby a (Entry.heardFrom_lobby hrace), Entry.heardFrom_of_not_car a hnotcar, passedOver,
      hrace]
    rfl
  · have habsent : e.state ≠ .absent := fun h => by
      rw [h] at hrace
      cases hrace
    rw [Entry.afterStart_of_race a ((congrArg EntryState.isRace (Entry.heardFrom_race hrace)).trans hrace),
      Entry.heardFrom_of_not_car a hnotcar, if_neg habsent, passedOver, hrace]
    rfl

/-! ## A START handed on (R54, R84) -/

/-- The part as a frame from another station reaches the Peer Table: its sender's reception and presence. -/
def State.joining (s : State) (f : BusFrame) (a : Instant) : State :=
  (s.receiving f).withEntry f.sender ((s.entry f.sender).heardFrom f a) (joined s f a)

theorem State.entry_joining (s : State) (f : BusFrame) (a : Instant) (p : Station) :
    (s.joining f a).entry p = if p = f.sender then (s.entry f.sender).heardFrom f a else s.entry p :=
  (s.receiving f).entry_withEntry f.sender p _ _

/-- What a frame heard has posted so far. -/
theorem posts_receiving (s : State) (f : BusFrame) (e : Entry) (l : List EventRecord) :
    Posts s ((s.receiving f).withEntry f.sender e l) l := ⟨rfl, rfl, rfl⟩

theorem posts_joining (s : State) (f : BusFrame) (a : Instant) : Posts s (s.joining f a) (joined s f a) :=
  posts_receiving s f _ _

theorem posts_missStart (s : State) (p : Station) (q : StartProposal) (a : Instant) :
    Posts s (s.missStart p q a) [⟨.startMissed, p, q.mask.setWidth 16, a⟩] := ⟨rfl, rfl, rfl⟩

/-- Once a START is decided its sender's entry follows, and the link. -/
theorem State.heard_of_toElsewhere (v : State) (f : BusFrame) (a : Instant) :
    ((v.toElsewhere f.sender).restartPresence f.sender a).hearLink f a =
      v.heard f a ((v.entry f.sender).afterStart a) [] := by
  rw [State.toElsewhere_eq, State.withEntry_restartPresence, State.withEntry_hearLink]
  rfl

/-- A START from another station: all-done is not met by it. -/
theorem exec_heard_start {s v : State} {a : Instant} {bytes : List Byte} {f : BusFrame} {q : StartProposal}
    (hassembling : assembling s a) (hcheck : checkFrame bytes = .valid f) (hpayload : f.payload = .start q)
    (hsender : f.sender ≠ s.own) (hown : s.race.own ≠ .offline)
    (hdecided : (s.joining f a).decideStart f.sender q a = v)
    (hdone : v.race.own ≠ .finished ∨ v.entry f.sender = (s.entry f.sender).heardFrom f a) :
    exec (.frameCompletion bytes) s = done s (v.heard f a ((v.entry f.sender).afterStart a) []) := by
  have hnotcar := not_car_of_start hpayload
  rw [exec_heard hassembling hcheck hsender hown]
  refine congrArg (done s) ?_
  have hhandOn : (s.receiving f).handOn f a =
      if (s.receiving f).testsDone (v.heard f a ((v.entry f.sender).afterStart a) []) f.sender then
        (v.heard f a ((v.entry f.sender).afterStart a) []).closeIfAllDone
      else v.heard f a ((v.entry f.sender).afterStart a) [] := by
    have hjoin : ((s.receiving f).receiveFields f a).joinSender f a = s.joining f a :=
      (s.receiving f).joinSender_receiveFields f a
    unfold State.handOn
    rw [hjoin, hpayload]
    dsimp only [State.hearPayload, State.hearReport, State.hearStart]
    rw [hdecided, State.heard_of_toElsewhere]
  rw [hhandOn]
  rcases hdone with hfinished | hentry
  · rw [State.closeIfAllDone_of_not (State.allDone_of_not_finished (s := v.heard f a _ []) hfinished), ite_self]
  · refine if_neg fun htest => ?_
    have hself : (v.heard f a ((v.entry f.sender).afterStart a) []).entry f.sender =
        (v.entry f.sender).afterStart a := (v.entry_heard f a _ [] f.sender).trans (if_pos rfl)
    have hsame : ((s.receiving f).entry f.sender) = s.entry f.sender := rfl
    rw [State.testsDone, hself, hentry, hsame, ((s.entry f.sender).heardFrom f a).afterStart_keeps a |>.2.1] at htest
    cases hrace : (s.entry f.sender).state.isRace
    · rw [Entry.afterStart_of_lobby a (Entry.heardFrom_lobby hrace)] at htest
      simp [EntryState.isDone, Entry.heardFrom_of_not_car a hnotcar] at htest
    · have hkeep : ((s.entry f.sender).heardFrom f a).state = (s.entry f.sender).state := Entry.heardFrom_race hrace
      rw [Entry.afterStart_of_race a ((congrArg EntryState.isRace hkeep).trans hrace), hkeep] at htest
      simp [Entry.heardFrom_of_not_car a hnotcar] at htest

end Sys2Proof.Machine
end

section
/-! PROOFS. A START that is missed, ignored or too late (R61, R84, R85, R88, R90, R91). -/

namespace Sys2Proof.Machine

open Sys2Proof.Claims

/-! ## What is decided, by the own race state (R84, R85, R91) -/

theorem State.decideStart_entered {s : State} {p : Station} {q : StartProposal} {a : Instant}
    (h : s.race.own = .entered) : s.decideStart p q a = s.testAdoption p q a := by
  rw [State.decideStart, h]

theorem State.decideStart_unlocked {s : State} {p : Station} {q : StartProposal} {a : Instant} {r : RaceRecord}
    (h : s.race.own = .countdown) (hrecord : s.race.record = some r) (hlocked : r.locked = false) :
    s.decideStart p q a = s.testReplacement r p q a := by
  rw [State.decideStart, h, hrecord]
  exact if_neg (Bool.eq_false_iff.mp hlocked)

theorem State.decideStart_late {s : State} {p : Station} {q : StartProposal} {a : Instant}
    (h : (s.race.own = .countdown ∧ ∃ r, s.race.record = some r ∧ r.locked = true) ∨
      s.race.own = .racing ∨ s.race.own = .finished ∨ s.race.own = .results) :
    s.decideStart p q a = s.post .startLate p 2 a := by
  rw [State.decideStart]
  rcases h with ⟨h, r, hrecord, hlocked⟩ | h | h | h
  · rw [h, hrecord]
    exact if_pos hlocked
  · rw [h]
  · rw [h]
  · rw [h]

/-! ## A START that changes no race (R84, R85, R90, R91) -/

/-- The part after a START that the Race Sequencer decides with posts at most. -/
def State.passed (s : State) (f : BusFrame) (a : Instant) (l : List EventRecord) : State :=
  ((s.receiving f).withEntry f.sender ((s.entry f.sender).heardFrom f a) l).heard f a
    (((s.entry f.sender).heardFrom f a).afterStart a) []

theorem exec_start_passes {s : State} {a : Instant} {bytes : List Byte} {f : BusFrame} {q : StartProposal}
    {l : List EventRecord} (hassembling : assembling s a) (hcheck : checkFrame bytes = .valid f)
    (hpayload : f.payload = .start q) (hsender : f.sender ≠ s.own) (hown : s.race.own ≠ .offline)
    (hdecided : (s.joining f a).decideStart f.sender q a =
      (s.receiving f).withEntry f.sender ((s.entry f.sender).heardFrom f a) l) :
    exec (.frameCompletion bytes) s = done s (s.passed f a l) := by
  have hentry := (s.receiving f).entry_withEntry_self f.sender ((s.entry f.sender).heardFrom f a) l
  have hexec := exec_heard_start hassembling hcheck hpayload hsender hown hdecided (.inr hentry)
  rw [hentry] at hexec
  exact hexec

theorem State.entry_passed_sender (s : State) {f : BusFrame} {q : StartProposal} (a : Instant) (l : List EventRecord)
    (hpayload : f.payload = .start q) : passedOver (s.entry f.sender) ((s.passed f a l).entry f.sender) f a := by
  rw [State.passed, State.entry_heard, if_pos rfl]
  exact Entry.passedOver_heardFrom hpayload

theorem State.entry_passed_other (s : State) {f : BusFrame} (a : Instant) (l : List EventRecord) {p : Station}
    (hp : p ≠ f.sender) : (s.passed f a l).entry p = s.entry p := by
  rw [State.passed, State.entry_heard, if_neg hp, State.entry_withEntry, if_neg hp]
  rfl

theorem State.records_passed (s : State) (f : BusFrame) (a : Instant) (l : List EventRecord) :
    (s.passed f a l).events.records = posted s (l ++ linkHeard s f a) :=
  (posts_receiving s f ((s.entry f.sender).heardFrom f a) l).posted (linkHeard s f a)

/-- A START that changes no race, with no frame of this station in the way. -/
theorem exec_start_passed {s : State} {a : Instant} {bytes : List Byte} {f : BusFrame} {q : StartProposal}
    {l : List EventRecord} (hstands : s.currentStands = true) (hassembling : assembling s a)
    (hcheck : checkFrame bytes = .valid f) (hpayload : f.payload = .start q) (hsender : f.sender ≠ s.own)
    (hown : s.race.own ≠ .offline)
    (hdecided : (s.joining f a).decideStart f.sender q a =
      (s.receiving f).withEntry f.sender ((s.entry f.sender).heardFrom f a) l) :
    ∃ t, exec (.frameCompletion bytes) s = .next t ∧
      t = { s with
        rx := afterGood s.rx, tx := { s.tx with lastSender := f.sender }, peers := t.peers, events := t.events } ∧
      passedOver (s.entry f.sender) (t.entry f.sender) f a ∧ linkAlive t a ∧
      (∀ p, p ≠ f.sender → t.entry p = s.entry p) ∧ t.events.records = posted s (l ++ linkHeard s f a) :=
  ⟨s.passed f a l, (exec_start_passes hassembling hcheck hpayload hsender hown hdecided).trans (done_id hstands rfl),
    rfl, s.entry_passed_sender a l hpayload, ⟨rfl, rfl, rfl⟩, fun _ hp => s.entry_passed_other a l hp,
    s.records_passed f a l⟩

/-- A START that is too late. -/
theorem State.post_joining (s : State) (f : BusFrame) (a : Instant) (d : Word) :
    (s.joining f a).post .startLate f.sender d a = (s.receiving f).withEntry f.sender
      ((s.entry f.sender).heardFrom f a) (joined s f a ++ [⟨.startLate, f.sender, d, a⟩]) :=
  State.withEntry_post _ _ _ _ _ _ _ _

/-- When a START is ignored (R84, R85, R91). -/
theorem State.decideStart_ignored {s : State} {p : Station} {q : StartProposal} {a : Instant}
    (h : s.race.own = .attract ∨ (s.race.own = .entered ∧ s.race.entry ≠ some q.race) ∨
      (s.race.own = .countdown ∧ ∃ r, s.race.record = some r ∧ r.locked = false ∧ r.race ≠ q.race)) :
    s.decideStart p q a = s := by
  rcases h with h | ⟨h, hrace⟩ | ⟨h, r, hrecord, hlocked, hrace⟩
  · rw [State.decideStart, h]
  · rw [State.decideStart_entered h]
    exact if_pos hrace
  · rw [State.decideStart_unlocked h hrecord hlocked]
    exact if_pos hrace

/-- When a START is too late, with the detail of START_LATE (R85, R90, R91). -/
theorem State.decideStart_too_late {s : State} {p : Station} {q : StartProposal} {a : Instant} {d : Word}
    (h : (d = 1 ∧ s.race.own = .entered ∧ s.race.entry = some q.race ∧ inMask q.mask s.own = true ∧
        q.lead.toNat < 1000000) ∨
      (d = 1 ∧ s.race.own = .countdown ∧ q.lead.toNat < 1000000 ∧
        ∃ r, s.race.record = some r ∧ r.locked = false ∧ r.race = q.race) ∨
      (d = 2 ∧ s.race.own = .countdown ∧ ∃ r, s.race.record = some r ∧ r.locked = true) ∨
      (d = 2 ∧ (s.race.own = .racing ∨ s.race.own = .finished ∨ s.race.own = .results))) :
    s.decideStart p q a = s.post .startLate p d a := by
  rcases h with ⟨rfl, h, hrace, hmask, hlead⟩ | ⟨rfl, h, hlead, r, hrecord, hlocked, hrace⟩ | ⟨rfl, h⟩ | ⟨rfl, h⟩
  · rw [State.decideStart_entered h, State.testAdoption, if_neg (Classical.not_not.mpr hrace),
      if_neg (by rw [hmask]; decide)]
    exact if_pos hlead
  · rw [State.decideStart_unlocked h hrecord hlocked, State.testReplacement, if_neg (Classical.not_not.mpr hrace)]
    exact if_pos hlead
  · exact State.decideStart_late (.inl h)
  · exact State.decideStart_late (.inr h)

/-! ## A missed START (R88) -/

theorem State.decideStart_missed {s : State} {p : Station} {q : StartProposal} {a : Instant}
    (h : s.race.own = .entered) (hrace : s.race.entry = some q.race) (hmask : inMask q.mask s.own = false) :
    s.decideStart p q a = s.missStart p q a := by
  rw [State.decideStart_entered h, State.testAdoption, if_neg (Classical.not_not.mpr hrace)]
  exact if_pos hmask

/-- Settles O30: a START that leaves this station out, one for another race, and one too late. -/
theorem startMissedOrTooLate : Obligations.StartMissedOrTooLate := by
  refine ⟨fun s a bytes f q hstands hassembling hcheck hpayload hsender hown hrace hmask => ?_,
    fun s a bytes f q hstands hassembling hcheck hpayload hsender h => ?_,
    fun s a bytes f q detail hstands hassembling hcheck hpayload hsender h => ?_⟩
  · have hexec := exec_heard_start hassembling hcheck hpayload hsender (by rw [hown]; exact nofun)
      (State.decideStart_missed (s := s.joining f a) hown hrace hmask) (.inl (fun h => nomatch hown.symm.trans h))
    have hentry : ∀ p, ((s.joining f a).missStart f.sender q a).entry p =
        ((s.joining f a).markElsewhere q.mask a).entry p := fun _ => rfl
    have hsent := (s.entry_joining f a f.sender).trans (if_pos rfl)
    have hstate : inMask q.mask f.sender = true ∨ (s.entry f.sender).state.isRace = false →
        ((((s.joining f a).markElsewhere q.mask a).entry f.sender).afterStart a).state = .elsewhere := fun h => by
      cases hin : inMask q.mask f.sender
      · rw [State.entry_markElsewhere_of_out a hin, hsent, Entry.afterStart_of_lobby a
          (Entry.heardFrom_lobby (h.resolve_left (Bool.eq_false_iff.mp hin)))]
      · rw [State.entry_markElsewhere_of_in (s := s.joining f a) a hin hsender,
          Entry.afterStart_of_lobby a (.inr (.inr rfl))]
    refine ⟨_, hexec.trans (done_id hstands rfl), rfl, fun p hin hp => ?_, fun h => ?_, ?_, ⟨rfl, rfl, rfl⟩,
      fun p hout hp => ?_, ?_⟩
    · have hp' : p ≠ s.own := fun h => Bool.false_ne_true (hmask.symm.trans (h ▸ hin))
      rw [State.entry_heard, if_neg hp, hentry, State.entry_markElsewhere_of_in (s := s.joining f a) a hin hp',
        State.entry_joining, if_neg hp]
      exact ⟨rfl, fun h => if_pos h, fun h => if_neg h⟩
    · rw [State.entry_heard, if_pos rfl, hentry]
      exact hstate h
    · rw [State.entry_heard, if_pos rfl, hentry]
      refine (Entry.afterStart_keeps _ a).2.2 _ _ ?_
      cases hin : inMask q.mask f.sender
      · rw [State.entry_markElsewhere_of_out a hin, hsent]
        exact Entry.received_heardFrom _ f a
      · rw [State.entry_markElsewhere_of_in (s := s.joining f a) a hin hsender, hsent]
        exact Entry.received_heardFrom _ f a
    · rw [State.entry_heard, if_neg hp, hentry, State.entry_markElsewhere_of_out a hout, State.entry_joining,
        if_neg hp]
    · have hposts := ((posts_joining s f a).trans (posts_missStart _ f.sender q a)).posted (linkHeard s f a)
      rw [List.append_assoc] at hposts
      exact hposts
  · have hown : s.race.own ≠ .offline := by
      rcases h with h | ⟨h, -⟩ | ⟨h, -⟩ <;> rw [h] <;> exact nofun
    exact exec_start_passed hstands hassembling hcheck hpayload hsender hown
      (State.decideStart_ignored (s := s.joining f a) h)
  · have hown : s.race.own ≠ .offline := by
      rcases h with ⟨-, h, -⟩ | ⟨-, h, -⟩ | ⟨-, h, -⟩ | ⟨-, h | h | h⟩ <;> rw [h] <;> exact nofun
    obtain ⟨t, hexec, hkeep, hpassed, hlink, hothers, hrecords⟩ := exec_start_passed hstands hassembling hcheck hpayload
      hsender hown ((State.decideStart_too_late (s := s.joining f a) h).trans (s.post_joining f a detail))
    exact ⟨t, hexec, hkeep, hpassed, hlink, hothers, by rw [hrecords, List.append_assoc]; rfl⟩

end Sys2Proof.Machine
end

section
/-! PROOFS. A START adopted (R35, R64, R83, R85 to R87, R91, R153). -/

namespace Sys2Proof.Machine

open Sys2Proof.Claims

/-! ## The removal of the own proposal (R35, R83) -/

/-- A frame that this station is SENDING goes on at the removal of its START. -/
theorem Transmitter.removeStart_sending {t : Transmitter} (h : t.phase = .sending) :
    t.removeStart.phase = .sending ∧ t.removeStart.inFlight = t.inFlight := by
  unfold Transmitter.removeStart
  dsimp only
  split
  · exact ⟨(if_neg (by rw [h]; exact nofun)).trans h, rfl⟩
  · exact ⟨h, rfl⟩

theorem Transmitter.queue_removeStart (t : Transmitter) : t.removeStart.queue = withoutStart t.queue := by
  unfold Transmitter.removeStart
  dsimp only
  split <;> rfl

theorem State.removeProposal_sending {s : State} (h : s.tx.phase = .sending) :
    s.removeProposal.tx.phase = .sending ∧ s.removeProposal.tx.inFlight = s.tx.inFlight := by
  rw [State.tx_removeProposal]
  split
  · exact Transmitter.removeStart_sending h
  · exact ⟨h, rfl⟩

theorem State.start_of_removeProposal {s : State} (h : ControlFrame.start ∈ s.removeProposal.tx.queue) :
    s.race.proposal ≠ .pending ∧ ControlFrame.start ∈ s.tx.queue := by
  rw [State.tx_removeProposal] at h
  split at h
  · rw [Transmitter.queue_removeStart] at h
    exact absurd h (start_not_mem_withoutStart _)
  · exact ⟨‹_›, h⟩

/-- Nothing departs while a frame is SENDING. -/
theorem settle_of_sending (s : State) {t : State} (h : t.tx.phase = .sending) : settle s t = t := by
  refine settle_of_not_begin ?_ ?_
  · unfold State.currentStands
    split
    · rfl
    · rw [h]
      rfl
  · rintro ⟨-, -, -, hready⟩
    exact nomatch h.symm.trans hready

/-! ## Adoption (R85, R87) -/

theorem State.decideStart_adopts {s : State} {p : Station} {q : StartProposal} {a : Instant}
    (h : s.race.own = .entered) (hrace : s.race.entry = some q.race) (hmask : inMask q.mask s.own = true)
    (hlead : 1000000 ≤ q.lead.toNat) : s.decideStart p q a = s.adopt p q a := by
  rw [State.decideStart_entered h, State.testAdoption, if_neg (Classical.not_not.mpr hrace),
    if_neg (by rw [hmask]; decide)]
  exact if_neg (Nat.not_lt.mpr hlead)

theorem State.race_adopt_fields (s : State) (p : Station) (q : StartProposal) (a : Instant) :
    (s.adopt p q a).race = { s.race with
      own := .countdown, lobbyTimer := none, proposal := .none
      record := some ⟨p, a + q.lead.setWidth 32, reached s.tick (a + q.lead.setWidth 32 - 1000000), q.race, q.mask⟩
      lockTimer := if reached s.tick (a + q.lead.setWidth 32 - 1000000) then none
        else some (a + q.lead.setWidth 32 - 1000000)
      greenTimer := some (a + q.lead.setWidth 32) } :=
  s.race_adopt p q a

theorem posts_adopt (s : State) (p : Station) (q : StartProposal) (a : Instant) :
    Posts s (s.adopt p q a) [⟨.startAdopted, p, q.mask.setWidth 16, a⟩] := by
  rw [State.adopt_eq]
  exact ⟨rfl, rfl, rfl⟩

theorem State.entry_adopt (s : State) (p : Station) (q : StartProposal) (a : Instant) (x : Station) :
    (s.adopt p q a).entry x = (s.seatMask q.mask).entry x := by
  rw [State.adopt_eq]
  rfl

/-- The part after a START adopted from another station. -/
def State.adopted (s : State) (f : BusFrame) (q : StartProposal) (a : Instant) : State :=
  ((s.joining f a).adopt f.sender q a).heard f a ((((s.joining f a).seatMask q.mask).entry f.sender).afterStart a) []

theorem exec_heard_adopts {s : State} {a : Instant} {bytes : List Byte} {f : BusFrame} {q : StartProposal}
    (hassembling : assembling s a) (hcheck : checkFrame bytes = .valid f) (hpayload : f.payload = .start q)
    (hsender : f.sender ≠ s.own) (hown : s.race.own = .entered) (hrace : s.race.entry = some q.race)
    (hmask : inMask q.mask s.own = true) (hlead : 1000000 ≤ q.lead.toNat) :
    exec (.frameCompletion bytes) s = .next (settle s (s.adopted f q a)) := by
  have hdecided := State.decideStart_adopts (s := s.joining f a) (p := f.sender) (a := a) hown hrace hmask hlead
  have hexec := exec_heard_start hassembling hcheck hpayload hsender (by rw [hown]; exact nofun) hdecided
    (.inl (by rw [State.race_adopt_fields]; exact nofun))
  rw [State.entry_adopt] at hexec
  exact hexec

theorem State.entry_adopted (s : State) (f : BusFrame) (q : StartProposal) (a : Instant) (p : Station) :
    (s.adopted f q a).entry p = if p = f.sender then
      (((s.joining f a).seatMask q.mask).entry f.sender).afterStart a
      else ((s.joining f a).seatMask q.mask).entry p := by
  rw [State.adopted, State.entry_heard, State.entry_adopt]

theorem State.tx_adopted (s : State) {f : BusFrame} {q : StartProposal} {a : Instant} (h : f.sender ≠ s.own) :
    (s.adopted f q a).tx = { (s.joining f a).removeProposal.tx with callTimer := none } := by
  have hown : ¬ f.sender = (s.joining f a).own := h
  have htx := (s.joining f a).tx_adopt f.sender q a
  rw [if_neg hown] at htx
  exact htx

/-- Settles O29: a START adopted. -/
theorem startAdopted : Obligations.StartAdopted := by
  intro s a bytes f q hassembling hcheck hpayload hsender hown hrace hmask hlead
  have hexec := exec_heard_adopts hassembling hcheck hpayload hsender hown hrace hmask hlead
  have htx := s.tx_adopted (q := q) (a := a) hsender
  have hno : ControlFrame.start ∈ (s.adopted f q a).tx.queue →
      s.race.proposal ≠ .pending ∧ ControlFrame.start ∈ s.tx.queue := fun h => by
    rw [htx] at h
    exact State.start_of_removeProposal (s := s.joining f a) h
  obtain ⟨hrace', hevents, hqueue⟩ := settle_no_new_start fun h => (hno h).2
  have hkeep := settle_eq_of_no_new_start fun h => (hno h).2
  have hentry : ∀ p, (settle s (s.adopted f q a)).entry p = (s.adopted f q a).entry p := fun p => by
    rw [hkeep]
    rfl
  have hrecord := (s.joining f a).race_adopt_fields f.sender q a
  refine ⟨_, hexec, ?_, ?_, fun hreached => ?_, ?_, ?_, ?_, ?_, fun hpending hmem => ?_, fun hsending => ?_,
    fun p hin hp hp' => ?_, fun hin => ?_, fun hout hlobby => ?_, fun p hout hp => ?_, ?_, ?_, ?_, ?_, ?_, ?_⟩
  · rw [hrace']
    exact congrArg Sequencer.own hrecord
  · rw [hrace']
    exact congrArg Sequencer.record hrecord
  · rw [hrace']
    exact (congrArg Sequencer.lockTimer hrecord).trans (if_neg (Bool.eq_false_iff.mp hreached))
  · rw [hrace']
    exact congrArg Sequencer.greenTimer hrecord
  · rw [hrace']
    exact congrArg Sequencer.lobbyTimer hrecord
  · rw [hrace']
    exact congrArg Sequencer.proposal hrecord
  · rw [hrace']
    exact (congrArg Sequencer.entry hrecord).trans rfl
  · rw [hqueue] at hmem
    exact (hno hmem).1 hpending
  · obtain ⟨hphase, hflight⟩ := State.removeProposal_sending (s := s.joining f a) hsending
    rw [settle_of_sending s (by rw [htx]; exact hphase), htx]
    exact ⟨hphase, hflight⟩
  · rw [hentry, State.entry_adopted, if_neg hp', State.entry_seatMask_of_in (s := s.joining f a) hin hp,
      State.entry_joining, if_neg hp']
    rfl
  · rw [hentry, State.entry_adopted, if_pos rfl, State.entry_seatMask_of_in (s := s.joining f a) hin hsender,
      Entry.afterStart_of_race a rfl]
    rfl
  · rw [hentry, State.entry_adopted, if_pos rfl, State.entry_seatMask_of_out hout, State.entry_joining, if_pos rfl,
      Entry.afterStart_of_lobby a (Entry.heardFrom_lobby hlobby)]
  · rw [hentry, State.entry_adopted, if_neg hp, State.entry_seatMask_of_out hout, State.entry_joining, if_neg hp]
  · rw [hkeep, State.adopted, State.adopt_eq]
    exact LampUnit.scheduledAt_schedule ..
  · rw [hevents]
    have hposts := ((posts_joining s f a).trans (posts_adopt _ f.sender q a)).posted (linkHeard s f a)
    rw [List.append_assoc] at hposts
    refine Eq.trans ?_ hposts
    rw [State.adopted, State.adopt_eq]
    rfl
  all_goals
    rw [hkeep, State.adopted, State.adopt_eq]
    rfl

end Sys2Proof.Machine
end

section
/-! PROOFS. A START that replaces the race, or is ignored, in COUNTDOWN before the lock (R71, R72, R84, R89, R91 to
R93). -/

namespace Sys2Proof.Machine

open Sys2Proof.Claims

/-! ## The decision (R91) -/

theorem RaceRecord.yieldsTo_iff {r : RaceRecord} {p : Station} {green : Instant} :
    r.yieldsTo p green = true ↔
      2000 < interval green r.green ∨ (-2000 ≤ interval green r.green ∧ p.val < r.proposer.val) := by
  simp only [RaceRecord.yieldsTo, Bool.or_eq_true, Bool.and_eq_true, decide_eq_true_eq]

theorem RaceRecord.not_yieldsTo {r : RaceRecord} {p : Station} {green : Instant}
    (hlater : interval green r.green ≤ 2000) (h : interval green r.green < -2000 ∨ r.proposer.val ≤ p.val) :
    ¬ r.yieldsTo p green = true := by
  rw [RaceRecord.yieldsTo_iff]
  omega

/-- A START for the record's race, with lead enough. -/
theorem State.testReplacement_eq {s : State} {r : RaceRecord} {p : Station} {q : StartProposal} {a : Instant}
    (hrace : r.race = q.race) (hlead : 1000000 ≤ q.lead.toNat) :
    s.testReplacement r p q a =
      if r.yieldsTo p (a + q.lead.setWidth 32) then
        if inMask q.mask s.own then s.replaceWith p q a else s.replaceWithout p q a
      else s := by
  rw [State.testReplacement, if_neg (Classical.not_not.mpr hrace)]
  exact if_neg (Nat.not_lt.mpr hlead)

/-! ## Who leaves (R72, R84) -/

/-- The stations that leave are those of the table before the sender's reception. -/
theorem gone_joining (s : State) (f : BusFrame) (leaves : Station → Bool) (a : Instant) :
    gone (s.joining f a) leaves a = gone s leaves a := by
  have hlost : ∀ p, decide (((s.joining f a).entry p).state = .lost) = decide ((s.entry p).state = .lost) := fun p => by
    rw [State.entry_joining]
    split
    case isTrue h =>
      rw [h]
      have hstate : ((s.entry f.sender).heardFrom f a).state =
          if (s.entry f.sender).state = .absent then .present else (s.entry f.sender).state := rfl
      rw [hstate]
      cases (s.entry f.sender).state <;> rfl
    case isFalse => rfl
  have hown : (s.joining f a).own = s.own := rfl
  rw [gone, gone]
  simp only [hlost, hown]

/-- Unseating leaves a station outside the race as it is. -/
theorem Entry.ite_unseat (e : Entry) (timer : Timer) :
    (if e.state.isRace then e.unseat timer else e) = e.unseat timer := by
  split
  case isTrue => rfl
  case isFalse h => exact (Entry.unseat_of_lobby timer (Bool.eq_false_iff.mpr h)).symm

/-- An entry after unseating, as the manual tells it for a station in the race and one outside. -/
theorem Entry.unseated_or_same (e : Entry) (now : Instant) :
    if e.state.isRace then unseated e (e.unseat (some (now + 1000000))) now
    else e.unseat (some (now + 1000000)) = e := by
  split
  case isTrue h => exact Entry.unseated_unseat h
  case isFalse h => exact Entry.unseat_of_lobby _ (Bool.eq_false_iff.mpr h)

/-! ## A replacement that includes this station (R71, R92) -/

theorem State.race_replaceWith_fields (s : State) (p : Station) (q : StartProposal) (a : Instant) :
    (s.replaceWith p q a).race = { s.race with
      record := some ⟨p, a + q.lead.setWidth 32, reached s.tick (a + q.lead.setWidth 32 - 1000000), q.race, q.mask⟩
      lockTimer := if reached s.tick (a + q.lead.setWidth 32 - 1000000) then none
        else some (a + q.lead.setWidth 32 - 1000000)
      greenTimer := some (a + q.lead.setWidth 32) } :=
  s.race_replaceWith p q a

theorem posts_replaceWith (s : State) (p : Station) (q : StartProposal) (a : Instant) :
    Posts s (s.replaceWith p q a) (replacedRecords s p q a) := by
  rw [State.replaceWith_eq]
  exact ⟨rfl, rfl, rfl⟩

theorem State.entry_replaceWith (s : State) (p : Station) (q : StartProposal) (a : Instant) (x : Station) :
    (s.replaceWith p q a).entry x =
      ((s.unseatEntries fun x => s.seated x && !inMask q.mask x).seatMask q.mask).entry x := by
  rw [State.replaceWith_eq]
  rfl

theorem State.entry_replaceWith_of_in {s : State} (p : Station) {q : StartProposal} (a : Instant) {x : Station}
    (h : inMask q.mask x = true) (hx : x ≠ s.own) : (s.replaceWith p q a).entry x = (s.entry x).seat := by
  rw [State.entry_replaceWith, State.entry_seatMask_of_in (s := s.unseatEntries _) h hx, State.entry_unseatEntries, h]
  simp

theorem State.entry_replaceWith_of_out {s : State} (p : Station) {q : StartProposal} (a : Instant) {x : Station}
    (h : inMask q.mask x = false) (hx : x ≠ s.own) :
    (s.replaceWith p q a).entry x = (s.entry x).unseat (some (s.tick + 1000000)) := by
  rw [State.entry_replaceWith, State.entry_seatMask_of_out h, State.entry_unseatEntries, h, State.seated,
    decide_eq_true hx, Bool.true_and, Bool.not_false, Bool.and_true, Entry.ite_unseat]

theorem State.entry_replaceWith_own (s : State) (p : Station) (q : StartProposal) (a : Instant) :
    (s.replaceWith p q a).entry s.own = s.entry s.own := by
  have hown := State.entry_seatMask_own (s.unseatEntries fun x => s.seated x && !inMask q.mask x) q.mask
  rw [State.entry_replaceWith]
  refine (hown.trans (s.entry_unseatEntries _ s.own)).trans ?_
  simp [State.seated]

/-! ## A replacement that excludes this station (R89, R93) -/

theorem posts_replaceWithout (s : State) (p : Station) (q : StartProposal) (a : Instant) :
    Posts s (s.replaceWithout p q a) (missedRecords s p q a) := by
  rw [State.replaceWithout_eq]
  exact ⟨rfl, rfl, rfl⟩

theorem State.entry_replaceWithout (s : State) (p : Station) (q : StartProposal) (a : Instant) (x : Station) :
    (s.replaceWithout p q a).entry x =
      if inMask q.mask x && decide (x ≠ s.own) then (s.leftPeers.entries.get x).marked a
      else s.leftPeers.entries.get x := by
  rw [State.replaceWithout_eq]
  exact (s.setPeers s.leftPeers).entry_markElsewhere q.mask a x

theorem State.entry_leftPeers_other {s : State} {x : Station} (h : x ≠ s.own) :
    s.leftPeers.entries.get x = (s.entry x).unseat (some (s.tick + 1000000)) := by
  rw [State.entry_leftPeers, if_neg h, Entry.ite_unseat]

theorem State.entry_replaceWithout_of_in {s : State} (p : Station) {q : StartProposal} (a : Instant) {x : Station}
    (h : inMask q.mask x = true) (hx : x ≠ s.own) :
    (s.replaceWithout p q a).entry x = ((s.entry x).unseat (some (s.tick + 1000000))).marked a := by
  rw [State.entry_replaceWithout, h, decide_eq_true hx, State.entry_leftPeers_other hx]
  rfl

theorem State.entry_replaceWithout_of_out {s : State} (p : Station) {q : StartProposal} (a : Instant) {x : Station}
    (h : inMask q.mask x = false) (hx : x ≠ s.own) :
    (s.replaceWithout p q a).entry x = (s.entry x).unseat (some (s.tick + 1000000)) := by
  rw [State.entry_replaceWithout, h, State.entry_leftPeers_other hx]
  rfl

theorem State.entry_replaceWithout_own (s : State) (p : Station) (q : StartProposal) (a : Instant) :
    (s.replaceWithout p q a).entry s.own = { s.entry s.own with car := none, finish := none } := by
  rw [State.entry_replaceWithout, decide_eq_false (Classical.not_not.mpr rfl), Bool.and_false,
    State.entry_leftPeers, if_pos rfl]
  rfl

theorem State.isRace_replaceWithout {s : State} (p : Station) (q : StartProposal) (a : Instant) {x : Station}
    (hx : x ≠ s.own) : ((s.replaceWithout p q a).entry x).state.isRace = false := by
  cases h : inMask q.mask x
  · rw [State.entry_replaceWithout_of_out p a h hx]
    exact Entry.isRace_unseat _ _
  · rw [State.entry_replaceWithout_of_in p a h hx]
    rfl

theorem Entry.car_unseat {e : Entry} (now : Instant) (h : e.state.isRace = true) :
    (e.unseat (some (now + 1000000))).car = none := by
  obtain ⟨-, -, -, hcar, -⟩ := Entry.unseated_unseat (now := now) h
  exact hcar

/-- What follows an event leaves the Peer Table as it was. -/
theorem State.entry_settle (s t : State) (p : Station) : (settle s t).entry p = t.entry p := by
  rw [settle_eq]
  rfl

/-! ## The sender's entry (R71, R93) -/

/-- A sender unseated by its own START, but for a LOST one, is in a lobby state. -/
theorem Entry.unseat_heardFrom {e : Entry} {f : BusFrame} {a : Instant} (timer : Timer) (h : e.state ≠ .lost) :
    ((e.heardFrom f a).unseat timer).state = .present ∨ ((e.heardFrom f a).unseat timer).state = .entered ∨
      ((e.heardFrom f a).unseat timer).state = .elsewhere := by
  cases hrace : e.state.isRace
  · have hlobby := Entry.heardFrom_lobby (f := f) (a := a) hrace
    have hnot : (e.heardFrom f a).state.isRace = false := by rcases hlobby with h | h | h <;> rw [h] <;> rfl
    rw [Entry.unseat_of_lobby timer hnot]
    exact hlobby
  · have hstate : (e.heardFrom f a).state = e.state := Entry.heardFrom_race hrace
    rw [Entry.unseat_present timer (hstate ▸ hrace) (hstate ▸ h) rfl]
    exact .inl rfl

/-- So it is ELSEWHERE, its presence timer restarted. -/
theorem Entry.afterStart_unseat {e : Entry} {f : BusFrame} {a : Instant} (timer : Timer) (h : e.state ≠ .lost) :
    (((e.heardFrom f a).unseat timer).afterStart a).state = .elsewhere ∧
      (((e.heardFrom f a).unseat timer).afterStart a).presenceTimer = some (a + 1000000) := by
  rw [Entry.afterStart_of_lobby a (Entry.unseat_heardFrom timer h)]
  exact ⟨rfl, rfl⟩

/-- The part after a START that replaces the race, with this station in its mask or without. -/
def State.replaced (s : State) (f : BusFrame) (q : StartProposal) (a : Instant) : State :=
  ((s.joining f a).replaceWith f.sender q a).heard f a
    ((((s.joining f a).replaceWith f.sender q a).entry f.sender).afterStart a) []

/-- The part after a START that replaces the race and leaves this station out. -/
def State.replacedAway (s : State) (f : BusFrame) (q : StartProposal) (a : Instant) : State :=
  ((s.joining f a).replaceWithout f.sender q a).heard f a
    ((((s.joining f a).replaceWithout f.sender q a).entry f.sender).afterStart a) []

theorem State.entry_replaced (s : State) (f : BusFrame) (q : StartProposal) (a : Instant) (p : Station) :
    (s.replaced f q a).entry p = if p = f.sender then
      (((s.joining f a).replaceWith f.sender q a).entry f.sender).afterStart a
      else ((s.joining f a).replaceWith f.sender q a).entry p :=
  State.entry_heard _ f a _ [] p

theorem State.entry_replacedAway (s : State) (f : BusFrame) (q : StartProposal) (a : Instant) (p : Station) :
    (s.replacedAway f q a).entry p = if p = f.sender then
      (((s.joining f a).replaceWithout f.sender q a).entry f.sender).afterStart a
      else ((s.joining f a).replaceWithout f.sender q a).entry p :=
  State.entry_heard _ f a _ [] p

theorem State.replaced_eq (s : State) (f : BusFrame) (q : StartProposal) (a : Instant) :
    s.replaced f q a = { s with
      rx := afterGood s.rx, tx := { s.tx with lastSender := f.sender }, peers := (s.replaced f q a).peers
      race := (s.replaced f q a).race, lamp := s.lamp.schedule s.settings s.tick (a + q.lead.setWidth 32)
      events := (s.replaced f q a).events } := by
  rw [State.replaced, State.replaceWith_eq]
  rfl

theorem State.replacedAway_eq (s : State) (f : BusFrame) (q : StartProposal) (a : Instant) :
    s.replacedAway f q a = { s with
      rx := afterGood s.rx, tx := { s.tx.emptySlot with lastSender := f.sender, callTimer := none }
      peers := (s.replacedAway f q a).peers
      race := { s.race.clearRace with
        own := .entered, proposal := .none
        lobbyTimer := some (s.tick + BitVec.ofNat 32 (s.settings.lobbyWindow * 1000000)) }
      lamp := s.lamp.drop, events := (s.replacedAway f q a).events } := by
  rw [State.replacedAway, State.replaceWithout_eq]
  rfl

theorem State.race_replacedAway (s : State) (f : BusFrame) (q : StartProposal) (a : Instant) :
    (s.replacedAway f q a).race = { s.race.clearRace with
      own := .entered, proposal := .none
      lobbyTimer := some (s.tick + BitVec.ofNat 32 (s.settings.lobbyWindow * 1000000)) } := by
  rw [State.replacedAway_eq]

theorem State.records_replaced (s : State) (f : BusFrame) (q : StartProposal) (a : Instant) :
    (s.replaced f q a).events.records = posted s (joined s f a ++ ⟨.startReplaced, f.sender, q.mask.setWidth 16, a⟩ ::
      (gone s (fun p => !inMask q.mask p) a ++ linkHeard s f a)) := by
  have hposts := ((posts_joining s f a).trans (posts_replaceWith _ f.sender q a)).posted (linkHeard s f a)
  rw [List.append_assoc, replacedRecords, gone_joining] at hposts
  refine Eq.trans ?_ hposts
  rw [State.replaced, State.replaceWith_eq]
  rfl

theorem State.records_replacedAway (s : State) (f : BusFrame) (q : StartProposal) (a : Instant) :
    (s.replacedAway f q a).events.records = posted s (joined s f a ++ ⟨.startMissed, f.sender, q.mask.setWidth 16, a⟩ ::
      (gone s (fun _ => true) a ++ linkHeard s f a)) := by
  have hposts := ((posts_joining s f a).trans (posts_replaceWithout _ f.sender q a)).posted (linkHeard s f a)
  rw [List.append_assoc, missedRecords, gone_joining] at hposts
  refine Eq.trans ?_ hposts
  rw [State.replacedAway, State.replaceWithout_eq]
  rfl

/-- Settles O31: a START that replaces the race, or is ignored. -/
theorem startReplacesRace : Obligations.StartReplacesRace := by
  intro s a green bytes f q r hassembling hcheck hpayload hsender hown hrecord hlocked hrace hlead hgreen
  subst hgreen
  have hoffline : s.race.own ≠ .offline := by rw [hown]; exact nofun
  have hdecided : (s.joining f a).decideStart f.sender q a =
      if r.yieldsTo f.sender (a + q.lead.setWidth 32) then
        if inMask q.mask s.own then (s.joining f a).replaceWith f.sender q a
        else (s.joining f a).replaceWithout f.sender q a
      else s.joining f a :=
    (State.decideStart_unlocked (s := s.joining f a) hown hrecord hlocked).trans
      (State.testReplacement_eq (s := s.joining f a) hrace hlead)
  have hwith : r.yieldsTo f.sender (a + q.lead.setWidth 32) = true → inMask q.mask s.own = true →
      exec (.frameCompletion bytes) s = .next (settle s (s.replaced f q a)) := fun hyields hmask =>
    exec_heard_start hassembling hcheck hpayload hsender hoffline
      (hdecided.trans ((if_pos hyields).trans (if_pos hmask)))
      (.inl (by rw [State.race_replaceWith_fields]; exact fun h => nomatch hown.symm.trans h))
  have hwithout : r.yieldsTo f.sender (a + q.lead.setWidth 32) = true → inMask q.mask s.own = false →
      exec (.frameCompletion bytes) s = .next (settle s (s.replacedAway f q a)) := fun hyields hmask =>
    exec_heard_start hassembling hcheck hpayload hsender hoffline
      (hdecided.trans ((if_pos hyields).trans (if_neg (Bool.eq_false_iff.mp hmask))))
      (.inl (by rw [State.race_replaceWithout]; exact nofun))
  refine ⟨fun hlater hlower => ?_, fun hyields => ⟨fun hout hlost => ?_, fun hmask => ?_, fun hmask => ?_⟩⟩
  · have hexec := exec_start_passes hassembling hcheck hpayload hsender hoffline
      (hdecided.trans (if_neg (RaceRecord.not_yieldsTo hlater hlower)))
    have hno : ControlFrame.start ∈ (s.passed f a (joined s f a)).tx.queue → ControlFrame.start ∈ s.tx.queue := id
    obtain ⟨hrace', hevents, -⟩ := settle_no_new_start hno
    have hkeep := settle_eq_of_no_new_start hno
    refine ⟨_, hexec, ?_, ?_, ?_, fun p hp => ?_, ?_⟩
    · rw [hrace']
      rfl
    · rw [hkeep]
      rfl
    · rw [State.entry_settle]
      exact s.entry_passed_sender a _ hpayload
    · rw [State.entry_settle]
      exact s.entry_passed_other a _ hp
    · rw [hevents]
      exact s.records_passed f a _
  · have hyields' := RaceRecord.yieldsTo_iff.mpr hyields
    cases hmask : inMask q.mask s.own
    · refine ⟨_, hwithout hyields' hmask, ?_⟩
      rw [State.entry_settle, State.entry_replacedAway, if_pos rfl,
        State.entry_replaceWithout_of_out (s := s.joining f a) _ a hout hsender, State.entry_joining, if_pos rfl]
      exact Entry.afterStart_unseat _ hlost
    · refine ⟨_, hwith hyields' hmask, ?_⟩
      rw [State.entry_settle, State.entry_replaced, if_pos rfl,
        State.entry_replaceWith_of_out (s := s.joining f a) _ a hout hsender, State.entry_joining, if_pos rfl]
      exact Entry.afterStart_unseat _ hlost
  · have hno : ControlFrame.start ∈ (s.replaced f q a).tx.queue → ControlFrame.start ∈ s.tx.queue := by
      rw [State.replaced_eq]
      exact id
    obtain ⟨hrace', hevents, -⟩ := settle_no_new_start hno
    have hkeep := settle_eq_of_no_new_start hno
    have hlamp : (settle s (s.replaced f q a)).lamp =
        s.lamp.schedule s.settings s.tick (a + q.lead.setWidth 32) := by
      rw [hkeep, State.replaced_eq]
    refine ⟨_, hwith (RaceRecord.yieldsTo_iff.mpr hyields) hmask, ?_, ?_, ?_, ?_, ?_, fun p hin hp hp' => ?_,
      fun p hin hp => ?_, fun p hout hp => ?_, fun p hout hp hp' => ?_, ?_⟩
    · rw [hkeep, State.replaced_eq]
    · rw [hrace']
      exact (s.joining f a).race_replaceWith_fields f.sender q a
    · rw [hlamp]
      exact LampUnit.scheduledAt_schedule ..
    · rw [(tx_settle s _).1, State.replaced_eq]
    · rw [State.entry_settle, State.entry_replaced, if_neg (Ne.symm hsender)]
      exact (congrArg Entry.car ((s.joining f a).entry_replaceWith_own f.sender q a)).trans
        (congrArg Entry.car ((s.entry_joining f a s.own).trans (if_neg (Ne.symm hsender))))
    · rw [State.entry_settle, State.entry_replaced, if_neg hp',
        State.entry_replaceWith_of_in (s := s.joining f a) _ a hin hp, State.entry_joining, if_neg hp']
      rfl
    · rw [State.entry_settle, State.entry_replaced]
      split
      case isTrue h =>
        rw [State.entry_replaceWith_of_in (s := s.joining f a) _ a (h ▸ hin) hsender, Entry.afterStart_of_race a rfl]
        exact ⟨rfl, rfl⟩
      case isFalse =>
        rw [State.entry_replaceWith_of_in (s := s.joining f a) _ a hin hp]
        exact ⟨rfl, rfl⟩
    · rw [State.entry_settle, State.entry_replaced]
      split
      case isTrue h =>
        rw [State.entry_replaceWith_of_out (s := s.joining f a) _ a (h ▸ hout) hsender, Entry.isRace_afterStart]
        exact Entry.isRace_unseat _ _
      case isFalse =>
        rw [State.entry_replaceWith_of_out (s := s.joining f a) _ a hout hp]
        exact Entry.isRace_unseat _ _
    · rw [State.entry_settle, State.entry_replaced, if_neg hp',
        State.entry_replaceWith_of_out (s := s.joining f a) _ a hout hp, State.entry_joining, if_neg hp']
      exact Entry.unseated_or_same _ s.tick
    · rw [hevents]
      exact s.records_replaced f q a
  · have hno : ControlFrame.start ∈ (s.replacedAway f q a).tx.queue → ControlFrame.start ∈ s.tx.queue := by
      rw [State.replacedAway_eq]
      exact id
    obtain ⟨hrace', hevents, -⟩ := settle_no_new_start hno
    have hkeep := settle_eq_of_no_new_start hno
    have hmask' : ∀ p, inMask q.mask p = true → p ≠ s.own := fun p hin h =>
      Bool.false_ne_true (hmask.symm.trans (h ▸ hin))
    rw [State.race_replacedAway] at hrace'
    refine ⟨_, hwithout (RaceRecord.yieldsTo_iff.mpr hyields) hmask, ?_, ?_, ?_, ?_, ?_, ?_, ?_, ?_, ?_, fun p hp => ?_,
      fun p hin hp => ?_, fun p hout hp hp' => ?_, ?_⟩
    · rw [hrace']
    · rw [hrace']
      exact ⟨rfl, rfl, rfl, rfl, rfl, rfl, rfl, rfl, rfl, rfl, rfl⟩
    · rw [hrace']
      rfl
    · rw [hrace']
    · rw [hrace']
    · rw [slotEmpty, (tx_settle s _).1, (tx_settle s _).2.1, (tx_settle s _).2.2.2.1, (tx_settle s _).2.2.2.2.1,
        State.replacedAway_eq]
      exact ⟨rfl, rfl, rfl, rfl⟩
    · rw [hkeep, State.replacedAway_eq]
      exact LampUnit.drop_dark _
    · rw [State.entry_settle, State.entry_replacedAway, if_neg (Ne.symm hsender)]
      exact congrArg Entry.car ((s.joining f a).entry_replaceWithout_own f.sender q a)
    · rw [State.entry_settle, State.entry_replacedAway, if_neg (Ne.symm hsender)]
      exact congrArg Entry.finish ((s.joining f a).entry_replaceWithout_own f.sender q a)
    · rw [State.entry_settle, State.entry_replacedAway]
      split
      case isTrue =>
        rw [Entry.isRace_afterStart]
        exact State.isRace_replaceWithout (s := s.joining f a) f.sender q a hsender
      case isFalse => exact State.isRace_replaceWithout (s := s.joining f a) f.sender q a hp
    · have hmarked := State.entry_replaceWithout_of_in (s := s.joining f a) f.sender a hin hp
      have hcar : (s.entry p).state.isRace = true →
          (((s.joining f a).replaceWithout f.sender q a).entry p).car = none := fun h => by
          rw [hmarked, State.entry_joining]
          refine Entry.car_unseat _ ?_
          split
          case isTrue hp' => exact (congrArg EntryState.isRace (Entry.heardFrom_race (hp' ▸ h))).trans (hp' ▸ h)
          case isFalse => exact h
      rw [State.entry_settle, State.entry_replacedAway]
      split
      case isTrue hp' =>
        subst hp'
        rw [((Entry.afterStart_keeps _ a)).1, Entry.afterStart_of_lobby a (by rw [hmarked]; exact .inr (.inr rfl))]
        exact ⟨rfl, hcar⟩
      case isFalse =>
        refine ⟨?_, hcar⟩
        rw [hmarked]
        rfl
    · rw [State.entry_settle, State.entry_replacedAway, if_neg hp',
        State.entry_replaceWithout_of_out (s := s.joining f a) _ a hout hp, State.entry_joining, if_neg hp']
      exact Entry.unseated_or_same _ s.tick
    · rw [hevents]
      exact s.records_replacedAway f q a

end Sys2Proof.Machine
end

section
/-! PROOFS. An own frame read back whole: its source settled, the own arrival, and the own START (R35, R37, R38, R43,
R47, R50, R56, R83, R85, R87, R91, R92). -/

namespace Sys2Proof.Machine

open Sys2Proof.Claims

/-! ## The source settled (R36, R37, R38, R43) -/

/-- The settling of a source changes the Transmitter, and the own proposal where a START went. -/
theorem State.settleSource_eq (s : State) (x : Source) (d : Instant) :
    s.settleSource x d = { s with
      tx := (s.settleSource x d).tx
      race := { s.race with proposal := if x = .start then .none else s.race.proposal } } := by
  unfold State.settleSource
  cases x with
  | start => rfl
  | withdraw n => rfl
  | car => dsimp only; split <;> rfl
  | resend => dsimp only; split <;> rfl
  | call => dsimp only; split <;> rfl

theorem Transmitter.mem_of_dropHead {t : Transmitter} {c : ControlFrame} (h : c ∈ t.dropHead.queue) : c ∈ t.queue := by
  unfold Transmitter.dropHead at h
  split at h
  · exact List.mem_of_mem_tail h
  · exact h

theorem Transmitter.dropHead_eq (t : Transmitter) : t.dropHead = { t with queue := t.dropHead.queue } := by
  unfold Transmitter.dropHead
  split <;> rfl

theorem State.tx_settleSource_control (s : State) {x : Source} (d : Instant) (h : x.isControl = true) :
    (s.settleSource x d).tx = { s.tx with queue := s.tx.dropHead.queue } := by
  cases x with
  | start => exact s.tx.dropHead_eq
  | withdraw n => exact s.tx.dropHead_eq
  | car | resend | call => cases h

theorem State.tx_settleSource_car (s : State) {x : Source} (d : Instant) (h : x = .car ∨ x = .resend) :
    (s.settleSource x d).tx = if s.tx.slot.isEmpty then s.tx else { s.tx with
      slot := s.tx.slot.settled
      spacingTimer := some (d + BitVec.ofNat 32 (s.settings.reportSpacing * 1000))
      resendTimer := some (d + 250000) } := by
  unfold State.settleSource
  rcases h with rfl | rfl
  all_goals
    dsimp only
    split <;> rfl

theorem State.tx_settleSource_call (s : State) (d : Instant) :
    (s.settleSource .call d).tx =
      if s.race.own.isLobby then { s.tx with callTimer := some (d + 250000) } else s.tx := by
  unfold State.settleSource
  dsimp only
  split <;> rfl

/-- What the settling of a source leaves of the Transmitter. -/
theorem State.tx_settleSource_keeps (s : State) (x : Source) (d : Instant) :
    (s.settleSource x d).tx.sequence = s.tx.sequence ∧ (s.settleSource x d).tx.framesSent = s.tx.framesSent ∧
      (s.settleSource x d).tx.opportunity = s.tx.opportunity ∧
      (∀ c, c ∈ (s.settleSource x d).tx.queue → c ∈ s.tx.queue) := by
  have hcontrol : x.isControl = true → _ := s.tx_settleSource_control d
  have hcar : x = .car ∨ x = .resend → _ := s.tx_settleSource_car d
  cases x with
  | start | withdraw n =>
    rw [hcontrol rfl]
    exact ⟨rfl, rfl, rfl, fun _ => Transmitter.mem_of_dropHead⟩
  | car =>
    rw [hcar (.inl rfl)]
    split <;> exact ⟨rfl, rfl, rfl, fun _ => id⟩
  | resend =>
    rw [hcar (.inr rfl)]
    split <;> exact ⟨rfl, rfl, rfl, fun _ => id⟩
  | call =>
    rw [State.tx_settleSource_call]
    split <;> exact ⟨rfl, rfl, rfl, fun _ => id⟩

theorem State.callTimer_settleSource {s : State} {x : Source} (d : Instant)
    (h : x ≠ .call ∨ (s.race.own ≠ .attract ∧ s.race.own ≠ .entered)) :
    (s.settleSource x d).tx.callTimer = s.tx.callTimer := by
  have hcontrol : x.isControl = true → _ := s.tx_settleSource_control d
  have hcar : x = .car ∨ x = .resend → _ := s.tx_settleSource_car d
  cases x with
  | start | withdraw n => rw [hcontrol rfl]
  | car =>
    rw [hcar (.inl rfl)]
    split <;> rfl
  | resend =>
    rw [hcar (.inr rfl)]
    split <;> rfl
  | call =>
    obtain ⟨hattract, hentered⟩ := h.resolve_left (Classical.not_not.mpr rfl)
    rw [State.tx_settleSource_call, if_neg]
    rw [OwnState.isLobby_iff]
    exact not_or.mpr ⟨hattract, hentered⟩

theorem State.queue_settleSource (s : State) {x : Source} (d : Instant) (h : x = .car ∨ x = .resend ∨ x = .call) :
    (s.settleSource x d).tx.queue = s.tx.queue := by
  have hcar : x = .car ∨ x = .resend → _ := s.tx_settleSource_car d
  rcases h with h | h | rfl
  · rw [hcar (.inl h)]
    split <;> rfl
  · rw [hcar (.inr h)]
    split <;> rfl
  · rw [State.tx_settleSource_call]
    split <;> rfl

/-- A frame that carried no car, or one whose slot has been emptied since, leaves the slot and its timers (R43). -/
theorem State.slot_settleSource {s : State} {x : Source} (d : Instant)
    (h : (x ≠ .car ∧ x ≠ .resend) ∨ s.tx.slot.state = .empty) :
    (s.settleSource x d).tx.slot = s.tx.slot ∧ (s.settleSource x d).tx.spacingTimer = s.tx.spacingTimer ∧
      (s.settleSource x d).tx.resendTimer = s.tx.resendTimer := by
  have hcontrol : x.isControl = true → _ := s.tx_settleSource_control d
  have hcar : x = .car ∨ x = .resend → _ := s.tx_settleSource_car d
  have hempty : x = .car ∨ x = .resend → s.tx.slot.isEmpty = true := fun hx => by
    have hslot : s.tx.slot.state = .empty := h.resolve_left fun h => hx.elim h.1 h.2
    rw [CarSlot.isEmpty, hslot]
  cases x with
  | start | withdraw n =>
    rw [hcontrol rfl]
    exact ⟨rfl, rfl, rfl⟩
  | car =>
    rw [hcar (.inl rfl), if_pos (hempty (.inl rfl))]
    exact ⟨rfl, rfl, rfl⟩
  | resend =>
    rw [hcar (.inr rfl), if_pos (hempty (.inr rfl))]
    exact ⟨rfl, rfl, rfl⟩
  | call =>
    rw [State.tx_settleSource_call]
    split <;> exact ⟨rfl, rfl, rfl⟩

theorem State.tx_settleSource_full (s : State) {x : Source} (d : Instant) (h : x = .car ∨ x = .resend)
    (hfull : s.tx.slot.isEmpty = false) :
    (s.settleSource x d).tx = { s.tx with
      slot := s.tx.slot.settled
      spacingTimer := some (d + BitVec.ofNat 32 (s.settings.reportSpacing * 1000))
      resendTimer := some (d + 250000) } :=
  (s.tx_settleSource_car d h).trans (if_neg (Bool.eq_false_iff.mp hfull))

theorem CarSlot.settled_of_unsent {c : CarSlot} {v : CarValues} (h : c.state = .unsent v) :
    c.settled.state = if c.changed then .unsent v else .sent v := by
  rw [CarSlot.settled, h]
  dsimp only
  split
  · exact h
  · rfl

theorem CarSlot.settled_of_sent {c : CarSlot} {v : CarValues} (h : c.state = .sent v) : c.settled = c := by
  rw [CarSlot.settled, h]

/-- The part with a frame read back whole, before its own arrival. -/
def State.returned (s : State) (g : InFlight) : State :=
  { s with
    rx := { s.rx with arrival := none }
    tx := { (s.settleSource g.source g.departure).tx with
      phase := .ready, current := none, inFlight := none, sequence := s.tx.sequence + 1
      framesSent := satInc s.tx.framesSent, lastSender := s.own }
    race := { s.race with proposal := if g.source = .start then .none else s.race.proposal } }

theorem State.readBack_eq (s : State) (g : InFlight) :
    s.readBack g = (s.returned g).hearOwn g.frame g.departure := by
  obtain ⟨hsequence, hsent, -, -⟩ := s.tx_settleSource_keeps g.source g.departure
  unfold State.readBack
  dsimp only
  rw [hsequence, hsent, State.settleSource_eq]
  rfl

theorem exec_readBackWhole {s : State} {g : InFlight} (hphase : s.tx.phase = .sending)
    (hcrossing : s.tx.crossing = false) (hflight : s.tx.inFlight = some g) :
    exec .readBackWhole s = done s ((s.returned g).hearOwn g.frame g.departure) := by
  have hexec : exec .readBackWhole s = done s (if s.tx.crossing then
      (s.setRx { s.rx with arrival := none }).setTx { s.tx with crossing := false }
      else if s.tx.phase = .sending then
        match s.tx.inFlight with
        | none => s
        | some f => s.readBack f
      else s) := rfl
  rw [hexec, hcrossing, if_neg Bool.false_ne_true, if_pos hphase, hflight]
  exact congrArg (done s) (s.readBack_eq g)

/-! ## The own arrival (R25, R56) -/

/-- The part with an own frame at the Peer Table. -/
def State.heardOwn (s : State) (g : InFlight) : State :=
  (s.returned g).withEntry g.frame.sender ((s.entry g.frame.sender).receive g.frame g.departure) []

theorem State.hearOwn_of_offline {s : State} (f : BusFrame) (a : Instant) (h : s.race.own = .offline) :
    s.hearOwn f a = s := if_pos h

theorem State.hearOwn_of_other {s : State} {g : InFlight} (h : s.race.own ≠ .offline)
    (hpayload : ∀ q, g.frame.payload ≠ .start q) :
    (s.returned g).hearOwn g.frame g.departure = s.heardOwn g := by
  refine (if_neg h).trans ?_
  cases hkind : g.frame.payload with
  | start q => exact absurd hkind (hpayload q)
  | call entered race => rfl
  | car c => rfl
  | withdraw reason => rfl

theorem State.hearOwn_of_start {s : State} {g : InFlight} {q : StartProposal} (h : s.race.own ≠ .offline)
    (hpayload : g.frame.payload = .start q) :
    (s.returned g).hearOwn g.frame g.departure =
      ((s.heardOwn g).decideStart g.frame.sender q g.departure).toElsewhere g.frame.sender := by
  refine (if_neg h).trans ?_
  rw [hpayload]
  rfl

/-- An own frame that is no START at the Peer Table. -/
theorem State.hearOwn_peers {s : State} {g : InFlight} (hpayload : ∀ q, g.frame.payload ≠ .start q)
    (hsender : g.frame.sender = s.own) :
    ∃ peers, (s.returned g).hearOwn g.frame g.departure = { s.returned g with peers := peers } ∧
      (s.race.own ≠ .offline → received (s.entry s.own) (peers.entries.get s.own) g.frame g.departure) ∧
      (s.race.own = .offline → peers = s.peers) ∧ (∀ p, p ≠ s.own → peers.entries.get p = s.entry p) := by
  by_cases hoffline : s.race.own = .offline
  · exact ⟨s.peers, State.hearOwn_of_offline _ _ hoffline, fun h => absurd hoffline h, fun _ => rfl, fun _ _ => rfl⟩
  · have hentry : ∀ p, (s.heardOwn g).peers.entries.get p =
        if p = g.frame.sender then (s.entry g.frame.sender).receive g.frame g.departure else s.entry p :=
      fun p => (s.returned g).entry_withEntry g.frame.sender p _ []
    refine ⟨(s.heardOwn g).peers, State.hearOwn_of_other hoffline hpayload, fun _ => ?_, fun h => absurd h hoffline,
      fun p hp => ?_⟩
    · rw [hentry, if_pos hsender.symm, hsender]
      exact ⟨rfl, rfl, rfl, rfl⟩
    · rw [hentry, if_neg (hsender ▸ hp)]

/-- An own frame that is no START, settled. -/
theorem returned_settled (s : State) (g : InFlight) (peers : PeerTable) :
    let t := settle s { s.returned g with peers := peers }
    t = { s with rx := { s.rx with arrival := none }, tx := t.tx, peers := peers, race := (s.returned g).race } ∧
      t.tx.sequence = s.tx.sequence + 1 ∧ t.tx.framesSent = satInc s.tx.framesSent ∧ t.tx.lastSender = s.own ∧
      (s.tx.opportunity = none → t.tx = (s.returned g).tx) ∧
      t.tx.queue = (s.settleSource g.source g.departure).tx.queue ∧
      t.tx.callTimer = (s.settleSource g.source g.departure).tx.callTimer ∧
      t.tx.slot.state = (s.settleSource g.source g.departure).tx.slot.state ∧
      t.tx.spacingTimer = (s.settleSource g.source g.departure).tx.spacingTimer ∧
      t.tx.resendTimer = (s.settleSource g.source g.departure).tx.resendTimer := by
  dsimp only
  obtain ⟨-, -, hopportunity, hmem⟩ := s.tx_settleSource_keeps g.source g.departure
  have hno : ControlFrame.start ∈ ({ s.returned g with peers := peers } : State).tx.queue →
      ControlFrame.start ∈ s.tx.queue := hmem _
  obtain ⟨hrace, hevents, hqueue⟩ := settle_no_new_start hno
  have hkeep := settle_eq_of_no_new_start hno
  obtain ⟨hslot, -, hcall, hspacing, hresend, hlast, hsequence, -, -, -, -, hsent, -⟩ :=
    tx_settle s { s.returned g with peers := peers }
  refine ⟨?_, hsequence, hsent, hlast, fun hnone => ?_, hqueue, hcall, hslot, hspacing, hresend⟩
  · rw [hkeep]
    rfl
  · rw [settle_of_closed_idle (t := { s.returned g with peers := peers }) (hopportunity.trans hnone) rfl]

/-! ## Frames read back across a RESTART (R50) -/

theorem exec_readBackWhole_crossing {s : State} (hstands : s.currentStands = true) (hcrossing : s.tx.crossing = true) :
    exec .readBackWhole s = .next { s with
      rx := { s.rx with arrival := none }, tx := { s.tx with crossing := false } } := by
  have hexec : exec .readBackWhole s = done s ((s.setRx { s.rx with arrival := none }).setTx
      { s.tx with crossing := false }) := congrArg (done s) (if_pos hcrossing)
  exact hexec.trans (done_id hstands rfl)

theorem exec_frameCompletion_crossing {s : State} {i : Instant} (bytes : List Byte) (hstands : s.currentStands = true)
    (hcrossing : s.tx.crossing = true) (harrival : s.rx.arrival = some i) :
    exec (.frameCompletion bytes) s = .next { s with
      rx := { s.rx with arrival := none }, tx := { s.tx with crossing := false } } := by
  have hexec : exec (.frameCompletion bytes) s = done s ((s.setRx { s.rx with arrival := none }).setTx
      { s.tx with crossing := false }) := by
    refine congrArg (done s) ?_
    rw [harrival]
    exact if_pos hcrossing
  exact hexec.trans (done_id hstands rfl)

/-! ## The own START read back (R83, R85, R87, R91, R92) -/

/-- The own START at the Race Sequencer, once its source is settled. -/
theorem exec_readBackWhole_start {s v : State} {g : InFlight} {q : StartProposal} (hphase : s.tx.phase = .sending)
    (hcrossing : s.tx.crossing = false) (hflight : s.tx.inFlight = some g) (hpayload : g.frame.payload = .start q)
    (hsender : g.frame.sender = s.own) (hown : s.race.own ≠ .offline)
    (hdecided : (s.heardOwn g).decideStart s.own q g.departure = v) :
    exec .readBackWhole s = .next (settle s (v.withEntry s.own (v.entry s.own).elsewhere [])) := by
  rw [exec_readBackWhole hphase hcrossing hflight, State.hearOwn_of_start hown hpayload, hsender, hdecided,
    State.toElsewhere_eq]
  rfl

theorem State.tx_heardOwn_start {s : State} {g : InFlight} (h : g.source = .start) :
    (s.heardOwn g).tx = { s.tx with
      queue := s.tx.dropHead.queue, phase := .ready, current := none, inFlight := none
      sequence := s.tx.sequence + 1, framesSent := satInc s.tx.framesSent, lastSender := s.own } := by
  have htx : (s.settleSource g.source g.departure).tx = { s.tx with queue := s.tx.dropHead.queue } :=
    s.tx_settleSource_control g.departure (by rw [h]; rfl)
  rw [State.heardOwn, State.returned, htx]
  rfl

theorem State.race_heardOwn_start {s : State} {g : InFlight} (h : g.source = .start) :
    (s.heardOwn g).race = { s.race with proposal := .none } := by
  rw [State.heardOwn, State.returned, if_pos h]
  rfl

theorem State.entry_heardOwn {s : State} {g : InFlight} (hsender : g.frame.sender = s.own) {p : Station}
    (hp : p ≠ s.own) : (s.heardOwn g).entry p = s.entry p :=
  ((s.returned g).entry_withEntry g.frame.sender p _ []).trans (if_neg (hsender ▸ hp))

/-- The stations that leave are those of the table before the own arrival. -/
theorem gone_heardOwn {s : State} {g : InFlight} (hsender : g.frame.sender = s.own) (leaves : Station → Bool)
    (a : Instant) : gone (s.heardOwn g) leaves a = gone s leaves a := by
  have htest : ∀ p, (leaves p && decide (p ≠ s.own) && decide (((s.heardOwn g).entry p).state = .lost)) =
      (leaves p && decide (p ≠ s.own) && decide ((s.entry p).state = .lost)) := fun p => by
    by_cases hp : p = s.own
    · rw [decide_eq_false (Classical.not_not.mpr hp), Bool.and_false, Bool.false_and, Bool.false_and]
    · rw [State.entry_heardOwn hsender hp]
  have hown : (s.heardOwn g).own = s.own := rfl
  rw [gone, gone]
  simp only [hown, htest]

/-- What is left to settle after an own START: the queue holds no START that it did not hold before. -/
theorem withEntry_settled {s v : State} (p : Station) (e : Entry)
    (hno : ControlFrame.start ∈ v.tx.queue → ControlFrame.start ∈ s.tx.queue) :
    let t := settle s (v.withEntry p e [])
    t.race = v.race ∧ t.events = v.events ∧ t.lamp = v.lamp ∧ t.tx.queue = v.tx.queue ∧
      t.tx.sequence = v.tx.sequence ∧ (∀ x, x ≠ p → t.entry x = v.entry x) := by
  dsimp only
  obtain ⟨hrace, hevents, hqueue⟩ := settle_no_new_start (s := s) (t := v.withEntry p e []) hno
  obtain ⟨-, -, -, -, -, -, hsequence, -⟩ := tx_settle s (v.withEntry p e [])
  refine ⟨hrace, hevents, ?_, hqueue, hsequence, fun x hx => ?_⟩
  · rw [settle_eq]
    rfl
  · rw [State.entry_settle, State.entry_withEntry, if_neg hx]

/-- Settles O33: a frame read back whole. -/
theorem readBackWholeSettles : Obligations.ReadBackWholeSettles := by
  refine ⟨fun s g hphase hcrossing hflight hpayload hsender => ?_,
    fun s g q hphase hcrossing hflight hsource hpayload hsender hown hrace hmask hlead => ?_,
    fun s g q r green hphase hcrossing hflight hsource hpayload hsender hown hrecord hlocked hrace hlead hgreen => ?_,
    fun s hstands hcrossing => ⟨exec_readBackWhole_crossing hstands hcrossing, fun harrival bytes => ?_⟩⟩
  · obtain ⟨peers, hheard, hreceived, hoffline, hothers⟩ := State.hearOwn_peers hpayload hsender
    have hexec := exec_readBackWhole hphase hcrossing hflight
    rw [hheard] at hexec
    obtain ⟨hkeep, hsequence, hsent, hlast, hclosed, hqueue, hcall, hslot, hspacing, hresend⟩ :=
      returned_settled s g peers
    refine ⟨_, hexec, ?_⟩
    generalize settle s { s.returned g with peers := peers } = t at *
    have hpeers : t.peers = peers := by rw [hkeep]
    have hrace : t.race = (s.returned g).race := by rw [hkeep]
    have hentry : ∀ p, t.entry p = peers.entries.get p := fun p => by
      rw [hkeep]
      rfl
    rw [hqueue, hcall, hslot, hspacing, hresend]
    refine ⟨?_, hsequence, hsent, hlast, fun hnone => ?_, fun n c rest hg hcurrent hsource hhead => ?_,
      fun hg hlobby => ?_, State.callTimer_settleSource g.departure, s.queue_settleSource g.departure, fun h => ?_,
      fun v hg hunsent => ?_, fun v hg hsent' => ?_, fun h => ?_, fun h => ?_, fun p hp => ?_⟩
    · rw [hpeers, hrace]
      exact hkeep
    · rw [hclosed hnone]
      exact ⟨rfl, rfl, rfl⟩
    · rw [hg, State.tx_settleSource_control s g.departure rfl]
      exact Transmitter.queue_dropHead hhead hcurrent (by rw [hsource]; rfl)
    · rw [hg, State.tx_settleSource_call, if_pos (OwnState.isLobby_iff.mpr hlobby)]
    · obtain ⟨hslot', hspacing', hresend'⟩ := State.slot_settleSource g.departure h
      exact ⟨congrArg CarSlot.state hslot', hspacing', hresend'⟩
    · rw [State.tx_settleSource_full s g.departure hg (CarSlot.isEmpty_of_unsent hunsent)]
      exact ⟨CarSlot.settled_of_unsent hunsent, rfl, rfl⟩
    · rw [State.tx_settleSource_full s g.departure hg (CarSlot.isEmpty_of_sent hsent')]
      exact ⟨(congrArg CarSlot.state (CarSlot.settled_of_sent hsent')).trans hsent', rfl, rfl⟩
    · rw [hentry]
      exact hreceived h
    · rw [hpeers]
      exact hoffline h
    · rw [hentry]
      exact hothers p hp
  · have hrace₁ := State.race_heardOwn_start (s := s) hsource
    have htx₁ := State.tx_heardOwn_start (s := s) hsource
    have hexec := exec_readBackWhole_start hphase hcrossing hflight hpayload hsender (by rw [hown]; exact nofun)
      (State.decideStart_adopts (s := s.heardOwn g) hown hrace hmask hlead)
    have htx : ((s.heardOwn g).adopt s.own q g.departure).tx = { (s.heardOwn g).tx with callTimer := none } := by
      rw [State.tx_adopt]
      exact congrArg (fun x : Transmitter => { x with callTimer := none }) (if_pos rfl)
    obtain ⟨hrace', -, -, hqueue, hsequence, hentry⟩ := withEntry_settled (s := s)
      (v := (s.heardOwn g).adopt s.own q g.departure) s.own
      (((s.heardOwn g).adopt s.own q g.departure).entry s.own).elsewhere (by
        rw [htx, htx₁]
        exact Transmitter.mem_of_dropHead)
    rw [State.race_adopt_fields] at hrace'
    refine ⟨_, hexec, ?_, ?_, ?_, fun p hin hp => ?_, fun c rest hcurrent hcsource hhead => ?_, ?_⟩
    · rw [hrace']
    · rw [hrace']
    · rw [hrace']
      rfl
    · rw [hentry p hp, State.entry_adopt, State.entry_seatMask_of_in (s := s.heardOwn g) hin hp]
      rfl
    · rw [hqueue, htx, htx₁]
      exact Transmitter.queue_dropHead hhead hcurrent (by rw [hcsource]; rfl)
    · rw [hsequence, htx, htx₁]
  · have hrace₁ := State.race_heardOwn_start (s := s) hsource
    have htx₁ := State.tx_heardOwn_start (s := s) hsource
    have hoffline : s.race.own ≠ .offline := by rw [hown]; exact nofun
    have hdecided : (s.heardOwn g).decideStart s.own q g.departure =
        if r.yieldsTo s.own (g.departure + q.lead.setWidth 32) then
          if inMask q.mask s.own then (s.heardOwn g).replaceWith s.own q g.departure
          else (s.heardOwn g).replaceWithout s.own q g.departure
        else s.heardOwn g :=
      (State.decideStart_unlocked (s := s.heardOwn g) hown hrecord hlocked).trans
        (State.testReplacement_eq (s := s.heardOwn g) hrace hlead)
    subst hgreen
    refine ⟨fun hlater hlower => ?_, fun hyields hmask => ?_⟩
    · have hexec := exec_readBackWhole_start hphase hcrossing hflight hpayload hsender hoffline
        (hdecided.trans (if_neg (RaceRecord.not_yieldsTo hlater hlower)))
      obtain ⟨hrace', hevents, hlamp, -, hsequence, -⟩ := withEntry_settled (s := s) (v := s.heardOwn g) s.own
        ((s.heardOwn g).entry s.own).elsewhere (by
          rw [htx₁]
          exact Transmitter.mem_of_dropHead)
      refine ⟨_, hexec, ?_, hlamp, hevents, ?_⟩
      · rw [hrace', hrace₁]
      · rw [hsequence, htx₁]
    · have hexec := exec_readBackWhole_start hphase hcrossing hflight hpayload hsender hoffline
        (hdecided.trans ((if_pos (RaceRecord.yieldsTo_iff.mpr hyields)).trans (if_pos hmask)))
      have htx : ((s.heardOwn g).replaceWith s.own q g.departure).tx = (s.heardOwn g).tx := by
        rw [State.replaceWith_eq]
      obtain ⟨hrace', hevents, hlamp, -, hsequence, hentry⟩ := withEntry_settled (s := s)
        (v := (s.heardOwn g).replaceWith s.own q g.departure) s.own
        (((s.heardOwn g).replaceWith s.own q g.departure).entry s.own).elsewhere (by
          rw [htx, htx₁]
          exact Transmitter.mem_of_dropHead)
      refine ⟨_, hexec, ?_, ?_, fun p hin hp => ?_, ?_, ?_⟩
      · rw [hrace', State.race_replaceWith_fields, hrace₁]
        rfl
      · rw [hlamp, State.replaceWith_eq]
        exact LampUnit.scheduledAt_schedule ..
      · rw [hentry p hp, State.entry_replaceWith_of_in (s := s.heardOwn g) _ g.departure hin hp]
        rfl
      · rw [hsequence, htx, htx₁]
      · rw [hevents, (posts_replaceWith (s.heardOwn g) s.own q g.departure).records, replacedRecords,
          gone_heardOwn hsender]
        rfl
  · obtain ⟨i, hi⟩ := Option.isSome_iff_exists.mp harrival
    exact exec_frameCompletion_crossing bytes hstands hcrossing hi

end Sys2Proof.Machine
end
